-- ==== Sys2Proof/Word.lean ====
section
/-!
DEFINITION. The word of the block: the byte (00_scope.md R11). Every field of every frame is one byte
wide (20_memory.md R54); a nibble is the half of a byte the secondary matcher compares (R55).
-/
namespace Sys2Proof

/-- A byte: an unsigned integer 0..255 whose bits are numbered 7 down to 0 (00_scope.md R11). -/
abbrev Byte := BitVec 8

/-- A nibble, one digit of a secondary id or of a mask (20_memory.md R55). -/
abbrev Nibble := BitVec 4

end Sys2Proof
end

