-- ==== Sys2Proof/Syntax.lean ====
section
/-!
DEFINITION. The vocabulary of the block: frames, verdicts, delays, configurations, and `Instr`, the
one inductive with a constructor per row of spec/opcode_table.json, in the table's order.
-/
namespace Sys2Proof

/-- Four bytes in wire order: a secondary id, a selection mask or a selection tail (10_state.md R23,
30_encoding.md R90). -/
structure Quad where
  b0 : Byte
  b1 : Byte
  b2 : Byte
  b3 : Byte
deriving DecidableEq, Repr, Inhabited

/-- The bytes of a quad, in wire order. -/
def Quad.toList (q : Quad) : List Byte := [q.b0, q.b1, q.b2, q.b3]

/-- A baud rate, opaque to every rule (43_transport.md R201). -/
abbrev Rate := Nat

/-- The frame value (00_scope.md R14). The checksum is no field: it is a function of the others. -/
inductive Frame where
  | ack
  | short (control address : Byte)
  | control (control address ci : Byte) (payload : List Byte)
deriving DecidableEq, Repr

/-- The codec's errors: the source's four and the spec's own `badStart` (60_exceptions.md R210). -/
inductive FrameError where
  | truncated
  | badChecksum
  | badStop
  | lengthMismatch
  | badStart
deriving DecidableEq, Repr

/-- Every error a verdict can report (60_exceptions.md R211). -/
inductive Err where
  | frame (e : FrameError)
  | addressing
  | transportReceive
  | transportSend
deriving DecidableEq, Repr

/-- What a VERDICT output carries (43_transport.md R199). -/
inductive Verdict where
  | ok (f : Frame)
  | err (e : Err)
deriving DecidableEq, Repr

/-- The delay label of a TX output (43_transport.md R197): no delay, or the `k`-th free value taken.
The label is uninterpreted data; `delayValue` gives the number it stands for. -/
inductive Delay where
  | zero
  | draw (k : Nat)
deriving DecidableEq, Repr

/-- The response payload of a configuration, CFG_RESP (00_scope.md R8): the built-in default, raw
bytes of an override file, or the fields of a control/long frame. -/
inductive RespCfg where
  | builtin
  | raw (bytes : List Byte)
  | fields (control address ci : Byte) (payload : List Byte)
deriving DecidableEq, Repr

/-- A configuration, the operand of RESET (00_scope.md R8). `secid` is a list because a configuration
whose id is not four bytes is a startup error, not an impossibility (70_reset_and_hazards.md R243). -/
structure Cfg where
  ok : Bool
  primary : Byte := 0
  baud : Rate
  device : String
  debug : Bool
  resp : RespCfg
  secid : List Byte
  manuf : BitVec 16
  medium : Byte
  version : Byte
deriving DecidableEq, Repr

/-- The input events (43_transport.md R190). -/
inductive Event where
  | reset (cfg : Cfg)
  | rx (b : Byte)
  | gap
  | rxerr
  | shutdown
  | fatal
deriving DecidableEq, Repr

/-- The instructions: one constructor per row of spec/opcode_table.json. The operands of a frame row
are the bytes its encoding leaves free, in wire order. -/
inductive Instr where
  -- rows 1 to 9: the codec's rejections
  /-- ERR_BADSTART_LEAD `XX` (40_frame_codec.md R122). -/
  | errBadstartLead (x : Byte)
  /-- ERR_SHORT_BADCHECKSUM `10 CC AA XX ZZ` (R115). -/
  | errShortBadchecksum (c a x z : Byte)
  /-- ERR_SHORT_BADSTOP `10 CC AA SS XX` (R115). -/
  | errShortBadstop (c a x : Byte)
  /-- ERR_LONG_LENGTHMISMATCH `68 L1 L2` (R117). -/
  | errLongLengthmismatch (l1 l2 : Byte)
  /-- ERR_LONG_SHORTLENGTH `68 LL LL` (R118). -/
  | errLongShortlength (l : Byte)
  /-- ERR_LONG_BADSTART2 `68 LL LL XX` (R119). -/
  | errLongBadstart2 (l x : Byte)
  /-- ERR_LONG_BADCHECKSUM `68 LL LL 68 CC AA II .. XX ZZ` (R121). -/
  | errLongBadchecksum (c a ci : Byte) (data : List Byte) (x z : Byte)
  /-- ERR_LONG_BADSTOP `68 LL LL 68 CC AA II .. SS XX` (R121). -/
  | errLongBadstop (c a ci : Byte) (data : List Byte) (x : Byte)
  /-- ERR_TRUNCATED: the bytes of the partial frame that is dropped (R123, R128). -/
  | errTruncated (part : List Byte)
  -- rows 10 to 21: inbound frames, in dispatch order
  /-- ACK `E5`, received (42_slave_commands.md R157). -/
  | ack
  /-- IGNORE_BCAST_NOREPLY_SHORT `10 CC FF SS 16` (R180). -/
  | ignoreBcastNoreplyShort (c : Byte)
  /-- IGNORE_BCAST_NOREPLY_LONG `68 LL LL 68 CC FF II .. SS 16` (R180). -/
  | ignoreBcastNoreplyLong (c ci : Byte) (data : List Byte)
  /-- IGNORE_NOT_FOR_US: a Short or Control frame to another address (R180). -/
  | ignoreNotForUs (f : Frame)
  /-- SND_NKE `10 CC AA SS 16` (R160). -/
  | sndNke (c a : Byte)
  /-- SND_NKE_LONG `68 LL LL 68 CC AA II .. SS 16` (R160). -/
  | sndNkeLong (c a ci : Byte) (data : List Byte)
  /-- REQ_UD2 `10 CC AA SS 16` (R165). -/
  | reqUd2 (c a : Byte)
  /-- REQ_UD2_LONG `68 LL LL 68 CC AA II .. SS 16` (R165). -/
  | reqUd2Long (c a ci : Byte) (data : List Byte)
  /-- SET_ADDR `68 LL LL 68 CC AA 51 01 7A NN .. SS 16`; `extra` is what follows NN (R170). -/
  | setAddr (c a new : Byte) (extra : List Byte)
  /-- SELECT `68 0B 0B 68 CC AA 52 M0..M3 T0..T3 SS 16` (R175). -/
  | select (c a : Byte) (mask tail : Quad)
  /-- SELECT_BADLEN `68 LL LL 68 CC AA 52 .. SS 16`, data not 8 bytes (R175). -/
  | selectBadlen (c a : Byte) (data : List Byte)
  /-- IGNORE_UNKNOWN: a frame for us that no earlier row takes (R180). -/
  | ignoreUnknown (f : Frame)
  -- rows 30, 31: outbound frames
  /-- ACK_OUT `E5`, transmitted after delay `d` (40_frame_codec.md R130). -/
  | ackOut (d : Delay)
  /-- RSP_OUT: the response frame, transmitted (42_slave_commands.md R165). -/
  | rspOut
  -- rows 40 to 45: input events
  /-- RESET(cfg) (70_reset_and_hazards.md R240). -/
  | reset (cfg : Cfg)
  /-- RX(b) (40_frame_codec.md R125). -/
  | rxbyte (b : Byte)
  /-- GAP (R128). -/
  | rxgap
  /-- RXERR (43_transport.md R193). -/
  | rxerr
  /-- SHUTDOWN (60_exceptions.md R224). -/
  | shutdown
  /-- FATAL (R225). -/
  | fatal
  -- rows 46 to 48: output events
  /-- TX(d, bytes) (43_transport.md R197). -/
  | tx (d : Delay) (bytes : List Byte)
  /-- VERDICT(v) (R199). -/
  | verdict (v : Verdict)
  /-- SETBAUD(rate), the rate being BAUD (R201). -/
  | setbaud
  -- rows 50 to 56: functions
  /-- Checksum(f) (40_frame_codec.md R110). -/
  | checksum (f : Frame)
  /-- ChecksumOk(s, r) (R111). -/
  | checksumVerify (bytes : List Byte) (r : Byte)
  /-- Decode(buf) (R113). -/
  | decode (buf : List Byte)
  /-- Encode(f) (R130). -/
  | encode (f : Frame)
  /-- MatchesPrimary(a, p) (41_address_resolver.md R140). -/
  | matchPrimary (a p : Byte)
  /-- MatchesSecondary(data, id) (R143). -/
  | matchSecondary (data : List Byte) (id : Quad)
  /-- Execute(f) (42_slave_commands.md R155). -/
  | execute (f : Frame)
deriving DecidableEq, Repr

end Sys2Proof
end

