-- ==== Sys2Proof/Machine/Regs.lean ====
section
/-!
DEFINITION. The registers of the block, as the table of 10_state.md R20 lists them, RUNSTATE apart
(`RunState`, a field of State beside them): what a RESET loads and what a failed RESET leaves
unspecified (70_reset_and_hazards.md R240).
-/
namespace Sys2Proof.Machine

/-- RUNSTATE (10_state.md R28): the loop listens, or it has ended. -/
inductive RunState where
  | run
  | halt
deriving DecidableEq, Repr

/-- RESP, the response frame store, held decoded (10_state.md R30). RESP.N is the length of `data`
(`Resp.n`). -/
structure Resp where
  /-- RESP.C -/
  c : Byte
  /-- RESP.A -/
  a : Byte
  /-- RESP.CI -/
  ci : Byte
  /-- RESP.DATA[0..RESP.N-1] -/
  data : List Byte
deriving DecidableEq, Repr, Inhabited

/-- RESP.N, the payload length of the response (10_state.md R30). -/
def Resp.n (r : Resp) : Nat := r.data.length

/-- The state elements of 10_state.md R20 other than RUNSTATE. -/
structure Regs where
  /-- PRIMARY, the primary address (R21). -/
  primary : Byte
  /-- SELECTED: false is Idle, true is Selected (R22). -/
  selected : Bool
  /-- SECID[0..3], the secondary id in wire order (R23). -/
  secid : Quad
  /-- MANUF, inert (R23). -/
  manuf : BitVec 16
  /-- MEDIUM, inert (R23). -/
  medium : Byte
  /-- VERSION, inert (R23). -/
  version : Byte
  /-- RESP.C, RESP.A, RESP.CI, RESP.N and RESP.DATA (R30). -/
  resp : Resp
  /-- RXBUF, the bytes received since the last verdict or gap (R33). -/
  rxbuf : List Byte
  /-- BAUD (R27). -/
  baud : Rate
  /-- DEBUG (R27). -/
  debug : Bool
deriving DecidableEq, Repr, Inhabited

end Sys2Proof.Machine
end

