-- ==== Sys2Proof/Config.lean ====
section
/-!
DEFINITION. What an implementation fixes: the record of the parameters whose values no source gives
(00_scope.md R9), and the FREE VALUES, opaque constants with no body: nothing can be proved of any of
them, so a statement holds whatever they are.
-/
namespace Sys2Proof

/-- The parameters of 00_scope.md R9 (ACK_DELAY_MAX apart, which is `Config.ackDelayMax`) and the
Boolean NKE_NETLAYER_ACK of 93_implementation_defined.md U1. The code values are PRESUMED (log entry
3); NKE_NETLAYER_ACK is a DESIGN CHOICE (log entry 4; false is the rule of 42_slave_commands.md R160). -/
structure Params where
  /-- FCB_MASK -/
  fcbMask : Byte
  /-- C_SND_NKE -/
  cSndNke : Byte
  /-- C_REQ_UD2 -/
  cReqUd2 : Byte
  /-- C_SND_UD -/
  cSndUd : Byte
  /-- CI_DATA_SEND -/
  ciDataSend : Byte
  /-- CI_SELECT_SLAVE -/
  ciSelectSlave : Byte
  /-- NKE_NETLAYER_ACK: whether a SND_NKE to 253 is acknowledged. -/
  nkeNetlayerAck : Bool
deriving DecidableEq, Repr

/-- ACK_DELAY_MAX (00_scope.md R9): "about 1 ms", exact bound open. Free value, log entry 5, safe. -/
opaque Config.ackDelayMax : Nat

/-- The `k`-th draw before it is bounded (10_state.md R29). Free value, log entry 5, safe. -/
opaque Config.ackDelayDraw : Nat → Nat

/-- Whether the `k`-th send succeeds (43_transport.md R198). Free value, log entry 6, safe. -/
opaque Config.sendOk : Nat → Bool

/-- How many bytes of the `k`-th send reach the line when it fails (43_transport.md R198,
93_implementation_defined.md U11). Free value, log entry 6, safe. -/
opaque Config.sentLen : Nat → Nat

/-- The registers after a failed RESET (70_reset_and_hazards.md R240, 93_implementation_defined.md
U12). Free value, log entry 7, safe. -/
opaque Config.unspecifiedRegs : Nat → Machine.Regs

/-- The control byte of the built-in default payload (91_not_in_source.md N8). Free value, log entry
9, safe. -/
opaque Config.builtinC : Byte

/-- The CI byte of the built-in default payload (N8). Free value, log entry 9, safe. -/
opaque Config.builtinCi : Byte

/-- The payload of the built-in default response (N8), read through the bound of 00_scope.md R10.
Free value, log entry 9, safe. -/
opaque Config.builtinData : List Byte

/-- The value of CHECKSUM at an ACK, where 40_frame_codec.md R110 calls the function undefined. Free
value, log entry 11, safe. -/
opaque Config.ackChecksum : Byte

/-- The value of ENCODE at a Control frame whose payload is over 252 bytes, where 40_frame_codec.md
R130 does not define it. Free value, log entry 12, safe. -/
opaque Config.overlongEncoding : Frame → List Byte

end Sys2Proof
end

