-- ==== Sys2Proof/Machine/Constants.lean ====
section
/-!
DEFINITION. The protocol constants (00_scope.md R7), the default parameters (R9) and the configuration
that `State.reset` was loaded from.
-/
namespace Sys2Proof.Machine

/-- ACK_BYTE, the single-byte ACK frame (00_scope.md R7). -/
def ackByte : Byte := 0xE5#8
/-- START_SHORT, the lead byte of a short frame (R7). -/
def startShort : Byte := 0x10#8
/-- START_LONG, the first and fourth byte of a control/long frame (R7). -/
def startLong : Byte := 0x68#8
/-- STOP, the terminal byte (R7). -/
def stopByte : Byte := 0x16#8
/-- ADDR_NETWORK, 253 (R7). -/
def addrNetwork : Byte := 253#8
/-- ADDR_BCAST_REPLY, 254 (R7). -/
def addrBcastReply : Byte := 254#8
/-- ADDR_BCAST_NOREPLY, 255 (R7). -/
def addrBcastNoreply : Byte := 255#8
/-- SETADDR_B0 (R7). -/
def setaddrB0 : Byte := 0x01#8
/-- SETADDR_B1 (R7). -/
def setaddrB1 : Byte := 0x7A#8
/-- SEL_DATA_LEN, 8 (R7). -/
def selDataLen : Nat := 8
/-- WILDCARD_NIBBLE (R7). -/
def wildcardNibble : Nibble := 0xF#4
/-- UNICAST_MAX, 250 (R7): the data model's bound of the unicast addresses, which no rule tests. -/
def unicastMax : Nat := 250
/-- MAX_PAYLOAD, 252 (R10). -/
def maxPayload : Nat := 252
/-- MAX_FRAME, 261 (R10). -/
def maxFrame : Nat := 261

/-- The default parameters of 00_scope.md R9. PRESUMED: the M-Bus standard's values (G1 to G6), log
entry 3. NKE_NETLAYER_ACK false is the rule of 42_slave_commands.md R160, log entry 4. -/
def defaultParams : Params where
  fcbMask := 0x20#8
  cSndNke := 0x40#8
  cReqUd2 := 0x5B#8
  cSndUd := 0x53#8
  ciDataSend := 0x51#8
  ciSelectSlave := 0x52#8
  nkeNetlayerAck := false

/-- The configuration `State.reset` stands for. CFG_PRIMARY is the spec's default 0 (00_scope.md R8);
the spec gives the other values nowhere: DESIGN CHOICE, zero or empty, log entry 8, unsafe. -/
def bootCfg : Cfg where
  ok := true
  primary := 0#8
  baud := 0
  device := ""
  debug := false
  resp := .fields 0#8 0#8 0#8 []
  secid := [0#8, 0#8, 0#8, 0#8]
  manuf := 0#16
  medium := 0#8
  version := 0#8

end Sys2Proof.Machine
end

