-- ==== Sys2Proof/Machine/Operands.lean ====
section
/-!
DEFINITION. Operand forms: bytes and slices of a buffer, the byte sum, the function code, nibbles, and
the operands of the set-address and selection commands (30_encoding.md R85 to R90).
-/
namespace Sys2Proof.Machine

/-- `s[i]` (00_scope.md R12). Every rule reads indices below the length only; past it the answer is 0
and no rule sees it. -/
def byteAt (s : List Byte) (i : Nat) : Byte := s.getD i 0#8

/-- `s[i..j]`, the inclusive slice, empty when `j < i` (00_scope.md R12). -/
def slice (s : List Byte) (i j : Nat) : List Byte := (s.drop i).take (j + 1 - i)

/-- `sum8(s)`: the sum of the bytes, exactly, narrowed mod 256 at the end (00_scope.md R11). -/
def sum8 (s : List Byte) : Byte := BitVec.ofNat 8 (s.map BitVec.toNat).sum

/-- The function code: the control byte with the FCB bit cleared (42_slave_commands.md R156). -/
def codeOf (p : Params) (c : Byte) : Byte := c &&& ~~~p.fcbMask

/-- `b[7:4]` (00_scope.md R11). -/
def hiNibble (b : Byte) : Nibble := b.extractLsb' 4 4

/-- `b[3:0]` (00_scope.md R11). -/
def loNibble (b : Byte) : Nibble := b.extractLsb' 0 4

/-- The frame can exist in the block: a payload has at most 252 bytes (00_scope.md R10). -/
def frameFits : Frame → Bool
  | .ack => true
  | .short _ _ => true
  | .control _ _ _ payload => decide (payload.length ≤ maxPayload)

/-- The address byte of a frame that has one (30_encoding.md R86). -/
def frameAddress : Frame → Option Byte
  | .ack => none
  | .short _ a => some a
  | .control _ a _ _ => some a

/-- The payload spells a set-address command: at least three bytes, beginning `01 7A`
(30_encoding.md R89). -/
def isSetAddr (payload : List Byte) : Bool :=
  decide (3 ≤ payload.length) && byteAt payload 0 == setaddrB0 && byteAt payload 1 == setaddrB1

/-- NEW, the third payload byte (30_encoding.md R89). -/
def newAddress (payload : List Byte) : Byte := byteAt payload 2

/-- The four mask bytes of selection data (30_encoding.md R90). -/
def selMask (data : List Byte) : Quad :=
  ⟨byteAt data 0, byteAt data 1, byteAt data 2, byteAt data 3⟩

/-- The four bytes of selection data that are compared with nothing (30_encoding.md R90). -/
def selTail (data : List Byte) : Quad :=
  ⟨byteAt data 4, byteAt data 5, byteAt data 6, byteAt data 7⟩

/-- The number a delay label stands for: 0, or a draw in [0, ACK_DELAY_MAX] (10_state.md R29). -/
def delayValue : Delay → Nat
  | .zero => 0
  | .draw k => min (Config.ackDelayDraw k) Config.ackDelayMax

/-- The numeric code of a verdict (60_exceptions.md R211). -/
def verdictCode : Verdict → Nat
  | .ok _ => 0
  | .err (.frame .truncated) => 1
  | .err (.frame .badChecksum) => 2
  | .err (.frame .badStop) => 3
  | .err (.frame .lengthMismatch) => 4
  | .err (.frame .badStart) => 5
  | .err .addressing => 6
  | .err .transportReceive => 7
  | .err .transportSend => 8

end Sys2Proof.Machine
end

