-- ==== Sys2Proof/Machine/Codec.lean ====
section
/-!
DEFINITION. The Frame Codec (40_frame_codec.md): pure functions between byte sequences and frames. They
read their arguments and the four framing constants only (R134).
-/
namespace Sys2Proof.Machine

/-- CHECKSUM (40_frame_codec.md R110). At an ACK, where the rule leaves the function undefined, the
value is free (log entry 11). -/
def checksum : Frame → Byte
  | .ack => Config.ackChecksum
  | .short c a => sum8 [c, a]
  | .control c a ci payload => sum8 (c :: a :: ci :: payload)

/-- CHECKSUM_VERIFY (40_frame_codec.md R111). -/
def checksumOk (s : List Byte) (r : Byte) : Bool := sum8 s == r

/-- The three answers of the classifier (40_frame_codec.md R120). -/
inductive RxResult where
  | more
  | done (f : Frame)
  | err (e : FrameError)
deriving DecidableEq, Repr

/-- The classifier on a buffer whose lead byte is `10` (40_frame_codec.md R120). -/
def classifyShort (buf : List Byte) : RxResult :=
  if buf.length < 5 then .more
  else if byteAt buf 3 ≠ sum8 [byteAt buf 1, byteAt buf 2] then .err .badChecksum
  else if byteAt buf 4 ≠ stopByte then .err .badStop
  else .done (.short (byteAt buf 1) (byteAt buf 2))

/-- The classifier on a buffer whose lead byte is `68` (40_frame_codec.md R120). -/
def classifyLong (buf : List Byte) : RxResult :=
  let n := buf.length
  let L := (byteAt buf 1).toNat
  if n < 3 then .more
  else if byteAt buf 1 ≠ byteAt buf 2 then .err .lengthMismatch
  else if L < 3 then .err .lengthMismatch
  else if n < 4 then .more
  else if byteAt buf 3 ≠ startLong then .err .badStart
  else if n < L + 6 then .more
  else if byteAt buf (L + 4) ≠ sum8 (slice buf 4 (L + 3)) then .err .badChecksum
  else if byteAt buf (L + 5) ≠ stopByte then .err .badStop
  else .done (.control (byteAt buf 4) (byteAt buf 5) (byteAt buf 6) (slice buf 7 (L + 3)))

/-- `RxClassify` (40_frame_codec.md R120). -/
def rxClassify (buf : List Byte) : RxResult :=
  if buf.length = 0 then .more
  else if byteAt buf 0 = ackByte then .done .ack
  else if byteAt buf 0 = startShort then classifyShort buf
  else if byteAt buf 0 = startLong then classifyLong buf
  else .err .badStart

/-- The verdict of DECODE: `Ok(frame)` or `Err(e)`, `e` a FrameError (40_frame_codec.md R113). -/
inductive Decoded where
  | ok (f : Frame)
  | err (e : FrameError)
deriving DecidableEq, Repr

/-- The scan of DECODE from the prefix `taken` on, every prefix of which classified as MORE. -/
def scanFrame (taken : List Byte) : List Byte → Decoded × Nat
  | [] => (.err .truncated, taken.length)
  | b :: rest =>
    match rxClassify (taken ++ [b]) with
    | .more => scanFrame (taken ++ [b]) rest
    | .done f => (.ok f, taken.length + 1)
    | .err e => (.err e, taken.length + 1)

/-- DECODE: the verdict and the number of bytes it accounts for (40_frame_codec.md R113). -/
def decodeFrame (buf : List Byte) : Decoded × Nat := scanFrame [] buf

/-- ENCODE (40_frame_codec.md R130). At a payload over 252 bytes, where the rule does not define it,
the value is free (log entry 12). -/
def encodeFrame (f : Frame) : List Byte :=
  match f with
  | .ack => [ackByte]
  | .short c a => [startShort, c, a, checksum (.short c a), stopByte]
  | .control c a ci payload =>
    if payload.length ≤ maxPayload then
      let L := BitVec.ofNat 8 (3 + payload.length)
      [startLong, L, L, startLong, c, a, ci] ++ payload ++
        [checksum (.control c a ci payload), stopByte]
    else Config.overlongEncoding (.control c a ci payload)

end Sys2Proof.Machine
end

