-- ==== Sys2Proof/Machine/Boot.lean ====
section
/-!
DEFINITION. What RESET accepts: WellFormedConfig and the decoding of CFG_RESP and CFG_SECID
(70_reset_and_hazards.md R243).
-/
namespace Sys2Proof.Machine

/-- CFG_RESP given as raw bytes: exactly one well-formed control/long frame
(70_reset_and_hazards.md R243). -/
def respOfBlob (b : List Byte) : Option Resp :=
  match decodeFrame b with
  | (.ok (.control c a ci payload), k) => if k = b.length then some ⟨c, a, ci, payload⟩ else none
  | _ => none

/-- CFG_RESP as a response store; none if it is not one well-formed control/long frame
(70_reset_and_hazards.md R243). The built-in default is a free value of legal length (log entry 9). -/
def respOfCfg : RespCfg → Option Resp
  | .builtin => some ⟨Config.builtinC, 0#8, Config.builtinCi, Config.builtinData.take maxPayload⟩
  | .raw b => respOfBlob b
  | .fields c a ci payload =>
    if payload.length ≤ maxPayload then some ⟨c, a, ci, payload⟩ else none

/-- CFG_SECID as four bytes (70_reset_and_hazards.md R243). -/
def quadOf : List Byte → Option Quad
  | [b0, b1, b2, b3] => some ⟨b0, b1, b2, b3⟩
  | _ => none

/-- The registers a configuration loads (70_reset_and_hazards.md R240), or none on a startup error:
CFG_OK is 0, or WellFormedConfig fails (R243). -/
def regsOfCfg (cfg : Cfg) : Option Regs :=
  match cfg.ok, quadOf cfg.secid, respOfCfg cfg.resp with
  | true, some secid, some resp =>
    some {
      primary := cfg.primary
      selected := false
      secid := secid
      manuf := cfg.manuf
      medium := cfg.medium
      version := cfg.version
      resp := { resp with a := cfg.primary }
      rxbuf := []
      baud := cfg.baud
      debug := cfg.debug }
  | _, _, _ => none

end Sys2Proof.Machine
end

