-- ==== Sys2Proof/Machine/Flags.lean ====
section
/-!
DEFINITION. The one status flag, SELECTED (10_state.md R25): what each command that writes it makes of
it (42_slave_commands.md R182).
-/
namespace Sys2Proof.Machine

/-- SELECTED after a SND_NKE to address `a`: cleared iff `a` is 253 (42_slave_commands.md R160). -/
def selectedAfterNke (a : Byte) (selected : Bool) : Bool :=
  if a = addrNetwork then false else selected

/-- SELECTED after a SELECT whose match result is `m`: always written (42_slave_commands.md R175). -/
def selectedAfterSelect (m : Bool) : Bool := m

end Sys2Proof.Machine
end

