-- ==== Sys2Proof/Machine/State.lean ====
section
/-!
DEFINITION. The state of the block: the record of 10_state.md R20 (`Regs` and RUNSTATE), and beside it
the model's own fields: the parameters, the pending input events, the emitted output events, the
counter of free values, and the value a function row returned. Plain data.
-/
namespace Sys2Proof.Machine

/-- The output events (43_transport.md R196). -/
inductive Output where
  | tx (d : Delay) (bytes : List Byte)
  | verdict (v : Verdict)
  | setbaud (rate : Rate)
deriving DecidableEq, Repr

/-- What a function row returns to its caller (log entry 10). -/
inductive Value where
  /-- CHECKSUM -/
  | byte (b : Byte)
  /-- CHECKSUM_VERIFY and MATCH_PRIMARY -/
  | flag (b : Bool)
  /-- DECODE: the verdict and the consumed count -/
  | decoded (v : Decoded) (consumed : Nat)
  /-- ENCODE -/
  | bytes (bs : List Byte)
  /-- MATCH_SECONDARY: the match and the error -/
  | matched (m : Bool) (e : Option Err)
deriving DecidableEq, Repr

/-- The state. The inherited fields and `runstate` are the spec's whole state (10_state.md R20); the
fields after them are the model's own. -/
structure State extends Regs where
  /-- RUNSTATE (10_state.md R28). -/
  runstate : RunState
  /-- The parameters of 00_scope.md R9 and 93_implementation_defined.md U1; no step writes them (log
  entries 3 and 4). -/
  par : Params
  /-- The input events not yet taken, in arrival order (60_exceptions.md R220; log entry 1). -/
  inq : List Event
  /-- The output events emitted so far, oldest first (43_transport.md R196; log entry 2). -/
  outs : List Output
  /-- How many free values have been taken (log entries 5 and 7). -/
  draws : Nat
  /-- The value the last function row returned (log entry 10). -/
  ret : Option Value
deriving DecidableEq, Repr

/-- Why the machine stops with a fault: nothing does. Every rule gives every instruction an effect on
every state, errors of the protocol included (60_exceptions.md R210 to R219), so there is no
constructor and no meaning raises one: safe and unsafe do not arise. -/
inductive Fault
deriving DecidableEq, Repr

/-- Why an instruction has no meaning. -/
inductive Refusal where
  /-- Raised by an arm of `exec` whose instruction has no meaning yet; no arm is left so. Safe. -/
  | notModelled (mnemonic : String)
deriving DecidableEq, Repr

/-- The state right after a successful RESET of `bootCfg` (10_state.md R35). The spec gives SELECTED,
RXBUF, RUNSTATE, the default of PRIMARY, and RESP.A = PRIMARY; `bootCfg` is log entry 8 (DESIGN CHOICE,
unsafe), `defaultParams` log entry 3 (PRESUMED, unsafe). -/
def State.reset : State where
  primary := bootCfg.primary
  selected := false
  secid := ⟨0#8, 0#8, 0#8, 0#8⟩
  manuf := bootCfg.manuf
  medium := bootCfg.medium
  version := bootCfg.version
  resp := { c := 0#8, a := bootCfg.primary, ci := 0#8, data := [] }
  rxbuf := []
  baud := bootCfg.baud
  debug := bootCfg.debug
  runstate := .run
  par := defaultParams
  inq := []
  outs := [.setbaud bootCfg.baud]
  draws := 0
  ret := none

end Sys2Proof.Machine
end

