-- ==== Sys2Proof/Machine/Ops.lean ====
section
/-!
DEFINITION. The named operations over the registers, the byte stores, the outputs and the input queue,
and TAKING AN ERROR (`State.raiseFrame`), the block's analogue of exception entry. Every meaning is
written over these.
-/
namespace Sys2Proof.Machine

/-- A byte store of 20_memory.md R52: RXBUF or RESP.DATA. A list is its own canonical form. -/
abbrev Memory := List Byte

/-- `MemRead(space, i, 1)` (20_memory.md R52): the byte at an index, none past the end. -/
def memRead (m : Memory) (i : Nat) : Option Byte := m[i]?

/-- Append at the end, the only byte write (20_memory.md R52). -/
def memAppend (m : Memory) (b : Byte) : Memory := m ++ [b]

/-- The whole-buffer clear (20_memory.md R52). -/
def memClear (_ : Memory) : Memory := []

/-- The store is within its capacity (10_state.md R33, 00_scope.md R10). -/
def Memory.wf (capacity : Nat) (m : Memory) : Bool := decide (m.length ≤ capacity)

/-- `PRIMARY <- a` -/
def State.setPrimary (s : State) (a : Byte) : State := { s with primary := a }

/-- `SELECTED <- b` -/
def State.setSelected (s : State) (b : Bool) : State := { s with selected := b }

/-- `RESP.A <- a` -/
def State.setRespA (s : State) (a : Byte) : State := { s with resp := { s.resp with a := a } }

/-- `RXBUF <- RXBUF ++ [b]` (40_frame_codec.md R125). -/
def State.pushRx (s : State) (b : Byte) : State := { s with rxbuf := memAppend s.rxbuf b }

/-- `RXBUF <- []` (40_frame_codec.md R125). -/
def State.clearRx (s : State) : State := { s with rxbuf := memClear s.rxbuf }

/-- `RUNSTATE <- r` -/
def State.setRunstate (s : State) (r : RunState) : State := { s with runstate := r }

/-- Load every register but RUNSTATE (70_reset_and_hazards.md R240). -/
def State.loadRegs (s : State) (r : Regs) : State := { s with toRegs := r }

/-- `emit X` (00_scope.md R13). -/
def State.emit (s : State) (o : Output) : State := { s with outs := s.outs ++ [o] }

/-- Count one free value as taken. -/
def State.takeDraw (s : State) : State := { s with draws := s.draws + 1 }

/-- Hand a function's value to its caller (log entry 10). -/
def State.setRet (s : State) (v : Value) : State := { s with ret := some v }

/-- Take the first pending event off the queue (60_exceptions.md R220). -/
def State.takeEvent (s : State) : State := { s with inq := s.inq.tail }

/-- The operation happens only while RUNSTATE is RUN: in HALT nothing is received, executed or emitted
(10_state.md R28, 60_exceptions.md R225; log entry 13). -/
def State.whenRun (s : State) (f : State → State) : State :=
  if s.runstate = .run then f s else s

/-- `emit TX(d, bytes)` (43_transport.md R197). -/
def State.transmit (s : State) (d : Delay) (bytes : List Byte) : State := s.emit (.tx d bytes)

/-- `ignore` (00_scope.md R13). -/
def State.ignore (s : State) : State := s

/-- TAKING AN ERROR: `raise E` for a FrameError (60_exceptions.md R214): RXBUF is emptied,
VERDICT(Err(E)) is emitted, and nothing else happens. The return from it is implicit: the next event
is processed normally and there is nothing to restore (R215). -/
def State.raiseFrame (s : State) (e : FrameError) : State :=
  s.clearRx.emit (.verdict (.err (.frame e)))

/-- `raise AddressingError`, after the state write of its command (60_exceptions.md R217). -/
def State.raiseAddressing (s : State) : State := s.emit (.verdict (.err .addressing))

/-- `raise TransportError(receive)`, the partial buffer dropped (60_exceptions.md R218). -/
def State.raiseTransportReceive (s : State) : State :=
  s.clearRx.emit (.verdict (.err .transportReceive))

/-- Place a frame so that the next step completes it: all its bytes but the last stand in RXBUF, the
last is the next event, and the block listens. -/
def State.placeFrame (s : State) (bytes : List Byte) : State :=
  { s with
    rxbuf := bytes.dropLast
    inq := .rx (byteAt bytes (bytes.length - 1)) :: s.inq
    runstate := .run }

end Sys2Proof.Machine
end

