-- ==== Sys2Proof/Machine/Resolver.lean ====
section
/-!
DEFINITION. The Address Resolver: the primary matcher and the masked secondary matcher
(41_address_resolver.md).
-/
namespace Sys2Proof.Machine

/-- MATCH_PRIMARY (41_address_resolver.md R140). -/
def matchesPrimary (a p : Byte) : Bool :=
  a == p || a == addrBcastReply || a == addrNetwork

/-- The block acts on frames to `a`: not 255, and for-us (rows 1 and 2 of 42_slave_commands.md R155). -/
def heard (primary a : Byte) : Bool := a != addrBcastNoreply && matchesPrimary a primary

/-- One nibble of a mask against one of an id: the wildcard matches any (41_address_resolver.md R143). -/
def nibbleMatches (m d : Nibble) : Bool := m == wildcardNibble || m == d

/-- One byte of a mask against one of an id, high nibble first (20_memory.md R55). -/
def byteMatches (m d : Byte) : Bool :=
  nibbleMatches (hiNibble m) (hiNibble d) && nibbleMatches (loNibble m) (loNibble d)

/-- All four bytes of a mask match an id: AND semantics (41_address_resolver.md R143, R145). -/
def maskMatches (mask id : Quad) : Bool :=
  byteMatches mask.b0 id.b0 && byteMatches mask.b1 id.b1 && byteMatches mask.b2 id.b2 &&
    byteMatches mask.b3 id.b3

/-- MATCH_SECONDARY: the match and the error of selection data against an id
(41_address_resolver.md R143, R144). -/
def matchesSecondary (data : List Byte) (id : Quad) : Bool × Option Err :=
  if data.length ≠ selDataLen then (false, some .addressing)
  else (maskMatches (selMask data) id, none)

end Sys2Proof.Machine
end

