-- ==== Sys2Proof/Machine/Commands.lean ====
section
/-!
DEFINITION. The Slave State Machine (42_slave_commands.md): the commands, `Execute(f)`, and the
meanings of the inbound frame rows 10 to 21.

A frame row's meaning is what the frame does to the block in any state: nothing in HALT
(60_exceptions.md R225), nothing when rows 1 and 2 of R155 drop its address, and the command's effect
otherwise. VERDICT(Ok(f)) is emitted by RXBYTE (40_frame_codec.md R125), not by the command.
-/
namespace Sys2Proof.Machine

/-- Whether SND_NKE to `a` is acknowledged: unicast or 254 (42_slave_commands.md R160), and 253 only
under the parameter of 93_implementation_defined.md U1 (log entry 4). -/
def nkeAcked (p : Params) (primary a : Byte) : Bool :=
  a == primary || a == addrBcastReply || (a == addrNetwork && p.nkeNetlayerAck)

/-- SndNke(a) (42_slave_commands.md R160). The delay is the next free value (log entry 5). -/
def sndNke (s : State) (a : Byte) : State :=
  let s' := s.setSelected (selectedAfterNke a s.selected)
  if nkeAcked s.par s.primary a then s'.takeDraw.transmit (.draw s.draws) (encodeFrame .ack)
  else s'

/-- The response frame (42_slave_commands.md R165). -/
def responseFrame (r : Resp) : Frame := .control r.c r.a r.ci r.data

/-- `RESP.A <- PRIMARY; emit TX(0, Encode(response))` (42_slave_commands.md R165). -/
def sendResponse (s : State) : State :=
  let s' := s.setRespA s.primary
  s'.transmit .zero (encodeFrame (responseFrame s'.resp))

/-- ReqUd2(a) (42_slave_commands.md R165). -/
def reqUd2 (s : State) (a : Byte) : State :=
  if s.selected = true ∨ a = s.primary then sendResponse s else s.ignore

/-- SetAddr(NEW) (42_slave_commands.md R170). -/
def setAddr (s : State) (new : Byte) : State :=
  if s.selected = true then
    ((s.setPrimary new).setRespA new).transmit .zero (encodeFrame .ack)
  else s.ignore

/-- Select(data) (42_slave_commands.md R175). -/
def select (s : State) (data : List Byte) : State :=
  let r := matchesSecondary data s.secid
  let s' := s.setSelected (selectedAfterSelect r.1)
  if r.1 = true then s'.transmit .zero (encodeFrame .ack)
  else if r.2 = some .addressing then s'.raiseAddressing
  else s'

/-- Execute(f) (42_slave_commands.md R155). -/
def executeFrame (s : State) (f : Frame) : State :=
  match f with
  | .ack => s.ignore
  | .short c a =>
    if a = addrBcastNoreply then s.ignore
    else if !matchesPrimary a s.primary then s.ignore
    else if codeOf s.par c = s.par.cSndNke then sndNke s a
    else if codeOf s.par c = s.par.cReqUd2 then reqUd2 s a
    else s.ignore
  | .control c a ci payload =>
    if a = addrBcastNoreply then s.ignore
    else if !matchesPrimary a s.primary then s.ignore
    else if codeOf s.par c = s.par.cSndNke then sndNke s a
    else if codeOf s.par c = s.par.cReqUd2 then reqUd2 s a
    else if codeOf s.par c = s.par.cSndUd ∧ ci = s.par.ciDataSend ∧ isSetAddr payload then
      setAddr s (newAddress payload)
    else if codeOf s.par c = s.par.cSndUd ∧ ci = s.par.ciSelectSlave then select s payload
    else s.ignore

/-- A frame row's command in state `s`: dropped in HALT, and when its address is 255 or not for us
(log entries 13 and 14). -/
def State.onFrame (s : State) (a : Byte) (command : State → State) : State :=
  s.whenRun fun s => if heard s.primary a then command s else s.ignore

/-- ACK, received (42_slave_commands.md R157). -/
def execAck (s : State) : Host.Outcome State Fault Refusal := .next s.ignore

/-- IGNORE_BCAST_NOREPLY_SHORT (42_slave_commands.md R180). -/
def execIgnoreBcastNoreplyShort (_c : Byte) (s : State) : Host.Outcome State Fault Refusal :=
  .next s.ignore

/-- IGNORE_BCAST_NOREPLY_LONG (42_slave_commands.md R180). -/
def execIgnoreBcastNoreplyLong (_c _ci : Byte) (_data : List Byte) (s : State) :
    Host.Outcome State Fault Refusal :=
  .next s.ignore

/-- IGNORE_NOT_FOR_US (42_slave_commands.md R180). -/
def execIgnoreNotForUs (_f : Frame) (s : State) : Host.Outcome State Fault Refusal := .next s.ignore

/-- SND_NKE (42_slave_commands.md R160). -/
def execSndNke (_c a : Byte) (s : State) : Host.Outcome State Fault Refusal :=
  .next (s.onFrame a fun s => sndNke s a)

/-- SND_NKE_LONG: CI and payload are not examined (42_slave_commands.md R160, 92_eei_decisions.md D16). -/
def execSndNkeLong (_c a _ci : Byte) (_data : List Byte) (s : State) :
    Host.Outcome State Fault Refusal :=
  .next (s.onFrame a fun s => sndNke s a)

/-- REQ_UD2 (42_slave_commands.md R165). -/
def execReqUd2 (_c a : Byte) (s : State) : Host.Outcome State Fault Refusal :=
  .next (s.onFrame a fun s => reqUd2 s a)

/-- REQ_UD2_LONG: CI and payload are not examined (42_slave_commands.md R165, 92_eei_decisions.md D16). -/
def execReqUd2Long (_c a _ci : Byte) (_data : List Byte) (s : State) :
    Host.Outcome State Fault Refusal :=
  .next (s.onFrame a fun s => reqUd2 s a)

/-- SET_ADDR (42_slave_commands.md R170). -/
def execSetAddr (_c a new : Byte) (_extra : List Byte) (s : State) :
    Host.Outcome State Fault Refusal :=
  .next (s.onFrame a fun s => setAddr s new)

/-- SELECT, eight bytes of selection data (42_slave_commands.md R175). -/
def execSelect (_c a : Byte) (mask tail : Quad) (s : State) : Host.Outcome State Fault Refusal :=
  .next (s.onFrame a fun s => select s (mask.toList ++ tail.toList))

/-- SELECT_BADLEN: the same command, whose precondition fails (42_slave_commands.md R175). -/
def execSelectBadlen (_c a : Byte) (data : List Byte) (s : State) :
    Host.Outcome State Fault Refusal :=
  .next (s.onFrame a fun s => select s data)

/-- IGNORE_UNKNOWN (42_slave_commands.md R180). -/
def execIgnoreUnknown (_f : Frame) (s : State) : Host.Outcome State Fault Refusal := .next s.ignore

end Sys2Proof.Machine
end

