-- ==== Sys2Proof/Machine/Events.lean ====
section
/-!
DEFINITION. The meanings of the input event rows 40 to 45.
-/
namespace Sys2Proof.Machine

/-- RESET(cfg) (70_reset_and_hazards.md R240), in any RUNSTATE. A failed reset halts and leaves every
other register a free value (93_implementation_defined.md U12, log entry 7). -/
def resetWith (s : State) (cfg : Cfg) : State :=
  match regsOfCfg cfg with
  | none => ((s.loadRegs (Config.unspecifiedRegs s.draws)).takeDraw).setRunstate .halt
  | some r => ((s.loadRegs r).emit (.setbaud r.baud)).setRunstate .run

/-- RX(b) while RUNSTATE is RUN (40_frame_codec.md R125). -/
def receiveByte (s : State) (b : Byte) : State :=
  let s' := s.pushRx b
  match rxClassify s'.rxbuf with
  | .more => s'
  | .err e => s'.raiseFrame e
  | .done f => executeFrame (s'.clearRx.emit (.verdict (.ok f))) f

/-- GAP while RUNSTATE is RUN (40_frame_codec.md R128). -/
def receiveGap (s : State) : State :=
  if s.rxbuf = [] then s else s.raiseFrame .truncated

/-- RESET (70_reset_and_hazards.md R240). -/
def execReset (cfg : Cfg) (s : State) : Host.Outcome State Fault Refusal := .next (resetWith s cfg)

/-- RXBYTE (40_frame_codec.md R125). -/
def execRxbyte (b : Byte) (s : State) : Host.Outcome State Fault Refusal :=
  .next (s.whenRun fun s => receiveByte s b)

/-- RXGAP (40_frame_codec.md R128). -/
def execRxgap (s : State) : Host.Outcome State Fault Refusal := .next (s.whenRun receiveGap)

/-- RXERR (43_transport.md R193). -/
def execRxerr (s : State) : Host.Outcome State Fault Refusal :=
  .next (s.whenRun fun s => s.raiseTransportReceive)

/-- SHUTDOWN (60_exceptions.md R224). -/
def execShutdown (s : State) : Host.Outcome State Fault Refusal := .next (s.setRunstate .halt)

/-- FATAL (60_exceptions.md R225). -/
def execFatal (s : State) : Host.Outcome State Fault Refusal := .next (s.setRunstate .halt)

end Sys2Proof.Machine
end

