-- ==== Sys2Proof/Machine/Functions.lean ====
section
/-!
DEFINITION. The meanings of the function rows 50 to 56. The pure functions write no state of the block
and emit nothing (40_frame_codec.md R134); their value goes to their caller, `State.ret` (log entry
10). EXECUTE is the state machine's dispatch and works on the state.
-/
namespace Sys2Proof.Machine

/-- CHECKSUM (40_frame_codec.md R110). -/
def execChecksum (f : Frame) (s : State) : Host.Outcome State Fault Refusal :=
  .next (s.setRet (.byte (checksum f)))

/-- CHECKSUM_VERIFY (40_frame_codec.md R111). -/
def execChecksumVerify (bytes : List Byte) (r : Byte) (s : State) :
    Host.Outcome State Fault Refusal :=
  .next (s.setRet (.flag (checksumOk bytes r)))

/-- DECODE (40_frame_codec.md R113). -/
def execDecode (buf : List Byte) (s : State) : Host.Outcome State Fault Refusal :=
  .next (s.setRet (.decoded (decodeFrame buf).1 (decodeFrame buf).2))

/-- ENCODE (40_frame_codec.md R130). -/
def execEncode (f : Frame) (s : State) : Host.Outcome State Fault Refusal :=
  .next (s.setRet (.bytes (encodeFrame f)))

/-- MATCH_PRIMARY (41_address_resolver.md R140). -/
def execMatchPrimary (a p : Byte) (s : State) : Host.Outcome State Fault Refusal :=
  .next (s.setRet (.flag (matchesPrimary a p)))

/-- MATCH_SECONDARY (41_address_resolver.md R143). -/
def execMatchSecondary (data : List Byte) (id : Quad) (s : State) :
    Host.Outcome State Fault Refusal :=
  .next (s.setRet (.matched (matchesSecondary data id).1 (matchesSecondary data id).2))

/-- EXECUTE (42_slave_commands.md R155). -/
def execExecute (f : Frame) (s : State) : Host.Outcome State Fault Refusal :=
  .next (s.whenRun fun s => executeFrame s f)

end Sys2Proof.Machine
end

