-- ==== Sys2Proof/Machine/Outputs.lean ====
section
/-!
DEFINITION. The meanings of the outbound frame rows 30, 31 and the output event rows 46 to 48, and the
line as a view of the outputs. In HALT nothing is ever emitted (10_state.md R28, log entry 13).
-/
namespace Sys2Proof.Machine

/-- ACK_OUT: one ACK frame is sent (40_frame_codec.md R130). -/
def execAckOut (d : Delay) (s : State) : Host.Outcome State Fault Refusal :=
  .next (s.whenRun fun s => s.transmit d (encodeFrame .ack))

/-- RSP_OUT: the response frame is sent, its A byte PRIMARY, its checksum fresh
(42_slave_commands.md R165). -/
def execRspOut (s : State) : Host.Outcome State Fault Refusal := .next (s.whenRun sendResponse)

/-- TX (43_transport.md R197). -/
def execTx (d : Delay) (bytes : List Byte) (s : State) : Host.Outcome State Fault Refusal :=
  .next (s.whenRun fun s => s.transmit d bytes)

/-- VERDICT (43_transport.md R199). -/
def execVerdict (v : Verdict) (s : State) : Host.Outcome State Fault Refusal :=
  .next (s.whenRun fun s => s.emit (.verdict v))

/-- SETBAUD (43_transport.md R201). -/
def execSetbaud (s : State) : Host.Outcome State Fault Refusal :=
  .next (s.whenRun fun s => s.emit (.setbaud s.baud))

/-- The byte sequences of the TX outputs, in order. -/
def txBytes : List Output → List (List Byte)
  | [] => []
  | .tx _ bytes :: os => bytes :: txBytes os
  | .verdict _ :: os => txBytes os
  | .setbaud _ :: os => txBytes os

/-- What reaches the line of the `k`-th send: all of it, or any prefix if the send fails
(43_transport.md R198; free values, log entry 6). -/
def sentBytes (k : Nat) (bytes : List Byte) : List Byte :=
  if Config.sendOk k then bytes else bytes.take (Config.sentLen k)

/-- The report of the `k`-th send: TransportError(send) if it fails (60_exceptions.md R218). -/
def sendReport (k : Nat) : Option Verdict :=
  if Config.sendOk k then none else some (.err .transportSend)

/-- The bytes on the line of the sends from the `k`-th on. -/
def lineFrom (k : Nat) : List (List Byte) → List Byte
  | [] => []
  | bytes :: rest => sentBytes k bytes ++ lineFrom (k + 1) rest

/-- The bytes the block has put on the line (43_transport.md R197, R198): a view no rule reads. -/
def State.line (s : State) : List Byte := lineFrom 0 (txBytes s.outs)

end Sys2Proof.Machine
end

