-- ==== Sys2Proof/Machine/Rejections.lean ====
section
/-!
DEFINITION. The meanings of the rejection rows 1 to 9: each raises its FrameError
(60_exceptions.md R214), and in HALT nothing is received and no verdict is emitted (R225).
-/
namespace Sys2Proof.Machine

/-- ERR_BADSTART_LEAD (40_frame_codec.md R122). -/
def execErrBadstartLead (_x : Byte) (s : State) : Host.Outcome State Fault Refusal :=
  .next (s.whenRun fun s => s.raiseFrame .badStart)

/-- ERR_SHORT_BADCHECKSUM (40_frame_codec.md R115). -/
def execErrShortBadchecksum (_c _a _x _z : Byte) (s : State) : Host.Outcome State Fault Refusal :=
  .next (s.whenRun fun s => s.raiseFrame .badChecksum)

/-- ERR_SHORT_BADSTOP (40_frame_codec.md R115). -/
def execErrShortBadstop (_c _a _x : Byte) (s : State) : Host.Outcome State Fault Refusal :=
  .next (s.whenRun fun s => s.raiseFrame .badStop)

/-- ERR_LONG_LENGTHMISMATCH (40_frame_codec.md R117). -/
def execErrLongLengthmismatch (_l1 _l2 : Byte) (s : State) : Host.Outcome State Fault Refusal :=
  .next (s.whenRun fun s => s.raiseFrame .lengthMismatch)

/-- ERR_LONG_SHORTLENGTH (40_frame_codec.md R118). -/
def execErrLongShortlength (_l : Byte) (s : State) : Host.Outcome State Fault Refusal :=
  .next (s.whenRun fun s => s.raiseFrame .lengthMismatch)

/-- ERR_LONG_BADSTART2 (40_frame_codec.md R119). -/
def execErrLongBadstart2 (_l _x : Byte) (s : State) : Host.Outcome State Fault Refusal :=
  .next (s.whenRun fun s => s.raiseFrame .badStart)

/-- ERR_LONG_BADCHECKSUM (40_frame_codec.md R121). -/
def execErrLongBadchecksum (_c _a _ci : Byte) (_data : List Byte) (_x _z : Byte) (s : State) :
    Host.Outcome State Fault Refusal :=
  .next (s.whenRun fun s => s.raiseFrame .badChecksum)

/-- ERR_LONG_BADSTOP (40_frame_codec.md R121). -/
def execErrLongBadstop (_c _a _ci : Byte) (_data : List Byte) (_x : Byte) (s : State) :
    Host.Outcome State Fault Refusal :=
  .next (s.whenRun fun s => s.raiseFrame .badStop)

/-- ERR_TRUNCATED (40_frame_codec.md R128). -/
def execErrTruncated (_part : List Byte) (s : State) : Host.Outcome State Fault Refusal :=
  .next (s.whenRun fun s => s.raiseFrame .truncated)

end Sys2Proof.Machine
end

