-- ==== Sys2Proof/Machine/Dispatch.lean ====
section
/-!
DEFINITION. The dispatch of an instruction to its meaning, one arm per row of spec/opcode_table.json.
-/
namespace Sys2Proof.Machine

def exec (i : Instr) (s : State) : Host.Outcome State Fault Refusal :=
  match i with
  -- rows 1 to 9: rejections
  | .errBadstartLead x => Sys2Proof.Machine.execErrBadstartLead x s
  | .errShortBadchecksum c a x z => Sys2Proof.Machine.execErrShortBadchecksum c a x z s
  | .errShortBadstop c a x => Sys2Proof.Machine.execErrShortBadstop c a x s
  | .errLongLengthmismatch l1 l2 => Sys2Proof.Machine.execErrLongLengthmismatch l1 l2 s
  | .errLongShortlength l => Sys2Proof.Machine.execErrLongShortlength l s
  | .errLongBadstart2 l x => Sys2Proof.Machine.execErrLongBadstart2 l x s
  | .errLongBadchecksum c a ci data x z => Sys2Proof.Machine.execErrLongBadchecksum c a ci data x z s
  | .errLongBadstop c a ci data x => Sys2Proof.Machine.execErrLongBadstop c a ci data x s
  | .errTruncated part => Sys2Proof.Machine.execErrTruncated part s
  -- rows 10 to 21: inbound frames
  | .ack => Sys2Proof.Machine.execAck s
  | .ignoreBcastNoreplyShort c => Sys2Proof.Machine.execIgnoreBcastNoreplyShort c s
  | .ignoreBcastNoreplyLong c ci data => Sys2Proof.Machine.execIgnoreBcastNoreplyLong c ci data s
  | .ignoreNotForUs f => Sys2Proof.Machine.execIgnoreNotForUs f s
  | .sndNke c a => Sys2Proof.Machine.execSndNke c a s
  | .sndNkeLong c a ci data => Sys2Proof.Machine.execSndNkeLong c a ci data s
  | .reqUd2 c a => Sys2Proof.Machine.execReqUd2 c a s
  | .reqUd2Long c a ci data => Sys2Proof.Machine.execReqUd2Long c a ci data s
  | .setAddr c a new extra => Sys2Proof.Machine.execSetAddr c a new extra s
  | .select c a mask tail => Sys2Proof.Machine.execSelect c a mask tail s
  | .selectBadlen c a data => Sys2Proof.Machine.execSelectBadlen c a data s
  | .ignoreUnknown f => Sys2Proof.Machine.execIgnoreUnknown f s
  -- rows 30, 31: outbound frames
  | .ackOut d => Sys2Proof.Machine.execAckOut d s
  | .rspOut => Sys2Proof.Machine.execRspOut s
  -- rows 40 to 45: input events
  | .reset cfg => Sys2Proof.Machine.execReset cfg s
  | .rxbyte b => Sys2Proof.Machine.execRxbyte b s
  | .rxgap => Sys2Proof.Machine.execRxgap s
  | .rxerr => Sys2Proof.Machine.execRxerr s
  | .shutdown => Sys2Proof.Machine.execShutdown s
  | .fatal => Sys2Proof.Machine.execFatal s
  -- rows 46 to 48: output events
  | .tx d bytes => Sys2Proof.Machine.execTx d bytes s
  | .verdict v => Sys2Proof.Machine.execVerdict v s
  | .setbaud => Sys2Proof.Machine.execSetbaud s
  -- rows 50 to 56: functions
  | .checksum f => Sys2Proof.Machine.execChecksum f s
  | .checksumVerify bytes r => Sys2Proof.Machine.execChecksumVerify bytes r s
  | .decode buf => Sys2Proof.Machine.execDecode buf s
  | .encode f => Sys2Proof.Machine.execEncode f s
  | .matchPrimary a p => Sys2Proof.Machine.execMatchPrimary a p s
  | .matchSecondary data id => Sys2Proof.Machine.execMatchSecondary data id s
  | .execute f => Sys2Proof.Machine.execExecute f s

end Sys2Proof.Machine
end

