-- ==== Sys2Proof/WellFormed.lean ====
section
/-!
DEFINITION. Well-formed parameters (the constraints of 00_scope.md R9) and well-formed instructions: the
pattern and the condition of the instruction's row of spec/opcode_table.json hold, earlier rows not
applying (30_encoding.md R97). Rows 13 to 21 depend on PRIMARY, so it is an argument.
-/
namespace Sys2Proof

open Machine

/-- The constraints a model must demand of the code values (00_scope.md R9). -/
def Params.wf (p : Params) : Bool :=
  p.cSndNke != p.cReqUd2 && p.cSndNke != p.cSndUd && p.cReqUd2 != p.cSndUd &&
  p.cSndNke &&& p.fcbMask == 0#8 && p.cReqUd2 &&& p.fcbMask == 0#8 &&
  p.cSndUd &&& p.fcbMask == 0#8 && p.ciDataSend != p.ciSelectSlave

/-- A payload a Control frame can carry (00_scope.md R10). -/
def payloadFits (data : List Byte) : Bool := decide (data.length ≤ maxPayload)

/-- The frame is one that no command row takes: an unknown code, SND_UD in a Short frame, SND_UD with
another CI, or DATA_SEND whose payload is no set-address command (30_encoding.md R93). -/
def isUnknown (p : Params) : Frame → Bool
  | .ack => false
  | .short c _ => codeOf p c != p.cSndNke && codeOf p c != p.cReqUd2
  | .control c _ ci payload =>
    codeOf p c != p.cSndNke && codeOf p c != p.cReqUd2 &&
    !(codeOf p c == p.cSndUd && ci == p.ciDataSend && isSetAddr payload) &&
    !(codeOf p c == p.cSndUd && ci == p.ciSelectSlave)

/-- The frame has an address, not 255, that satisfies `q`. -/
def addressedBy (q : Byte → Bool) (f : Frame) : Bool :=
  match frameAddress f with
  | none => false
  | some a => a != addrBcastNoreply && q a

/-- The instruction's operands fit its row, for parameters `p` and primary address `primary`. -/
def Instr.wf (p : Params) (primary : Byte) : Instr → Bool
  | .errBadstartLead x => x != ackByte && x != startShort && x != startLong
  | .errShortBadchecksum c a x _ => x != sum8 [c, a]
  | .errShortBadstop _ _ x => x != stopByte
  | .errLongLengthmismatch l1 l2 => l1 != l2
  | .errLongShortlength l => decide (l.toNat < 3)
  | .errLongBadstart2 l x => decide (3 ≤ l.toNat) && x != startLong
  | .errLongBadchecksum c a ci data x _ => payloadFits data && x != sum8 (c :: a :: ci :: data)
  | .errLongBadstop _ _ _ data x => payloadFits data && x != stopByte
  | .errTruncated part => part != [] && rxClassify part == .more
  | .ack => true
  | .ignoreBcastNoreplyShort _ => true
  | .ignoreBcastNoreplyLong _ _ data => payloadFits data
  | .ignoreNotForUs f => frameFits f && addressedBy (fun a => !matchesPrimary a primary) f
  | .sndNke c a => heard primary a && codeOf p c == p.cSndNke
  | .sndNkeLong c a _ data => heard primary a && codeOf p c == p.cSndNke && payloadFits data
  | .reqUd2 c a => heard primary a && codeOf p c == p.cReqUd2
  | .reqUd2Long c a _ data => heard primary a && codeOf p c == p.cReqUd2 && payloadFits data
  | .setAddr c a _ extra =>
    heard primary a && codeOf p c == p.cSndUd && decide (3 + extra.length ≤ maxPayload)
  | .select c a _ _ => heard primary a && codeOf p c == p.cSndUd
  | .selectBadlen c a data =>
    heard primary a && codeOf p c == p.cSndUd && payloadFits data && data.length != selDataLen
  | .ignoreUnknown f =>
    frameFits f && addressedBy (fun a => matchesPrimary a primary) f && isUnknown p f
  | .ackOut _ => true
  | .rspOut => true
  | .reset _ => true
  | .rxbyte _ => true
  | .rxgap => true
  | .rxerr => true
  | .shutdown => true
  | .fatal => true
  | .tx _ bytes => bytes != []
  | .verdict (.ok f) => frameFits f
  | .verdict (.err _) => true
  | .setbaud => true
  | .checksum f => f != .ack && frameFits f
  | .checksumVerify _ _ => true
  | .decode _ => true
  | .encode f => frameFits f
  | .matchPrimary _ _ => true
  | .matchSecondary _ _ => true
  | .execute f => frameFits f

end Sys2Proof
end

