-- ==== Sys2Proof/Decode.lean ====
section
/-!
DEFINITION. The instruction decoder and encoder. A byte sequence at a frame boundary is one row of
spec/opcode_table.json: the codec's verdict first (rows 1 to 9), then the command map in dispatch
order (rows 10 to 21, 30_encoding.md R91, R97). Decoding is total: a sequence that spells no frame is
the rejection row that names what is wrong with it (30_encoding.md R92).
-/
namespace Sys2Proof

open Machine

/-- The rejection row of a decode error, from the bytes the verdict consumed (30_encoding.md R92). -/
def rejectionOf (e : FrameError) (buf : List Byte) : Instr :=
  let L := (byteAt buf 1).toNat
  match e with
  | .truncated => .errTruncated buf
  | .badChecksum =>
    if byteAt buf 0 = startShort then
      .errShortBadchecksum (byteAt buf 1) (byteAt buf 2) (byteAt buf 3) (byteAt buf 4)
    else
      .errLongBadchecksum (byteAt buf 4) (byteAt buf 5) (byteAt buf 6) (slice buf 7 (L + 3))
        (byteAt buf (L + 4)) (byteAt buf (L + 5))
  | .badStop =>
    if byteAt buf 0 = startShort then
      .errShortBadstop (byteAt buf 1) (byteAt buf 2) (byteAt buf 4)
    else
      .errLongBadstop (byteAt buf 4) (byteAt buf 5) (byteAt buf 6) (slice buf 7 (L + 3))
        (byteAt buf (L + 5))
  | .lengthMismatch =>
    if byteAt buf 1 = byteAt buf 2 then .errLongShortlength (byteAt buf 1)
    else .errLongLengthmismatch (byteAt buf 1) (byteAt buf 2)
  | .badStart =>
    if byteAt buf 0 = startLong then .errLongBadstart2 (byteAt buf 1) (byteAt buf 3)
    else .errBadstartLead (byteAt buf 0)

/-- The row of a well-formed Short frame (30_encoding.md R91, lines 2 to 5 and 8). -/
def shortRow (p : Params) (primary c a : Byte) : Instr :=
  if a = addrBcastNoreply then .ignoreBcastNoreplyShort c
  else if !matchesPrimary a primary then .ignoreNotForUs (.short c a)
  else if codeOf p c = p.cSndNke then .sndNke c a
  else if codeOf p c = p.cReqUd2 then .reqUd2 c a
  else .ignoreUnknown (.short c a)

/-- The row of a well-formed Control frame (30_encoding.md R91, lines 2 to 8). -/
def longRow (p : Params) (primary c a ci : Byte) (data : List Byte) : Instr :=
  if a = addrBcastNoreply then .ignoreBcastNoreplyLong c ci data
  else if !matchesPrimary a primary then .ignoreNotForUs (.control c a ci data)
  else if codeOf p c = p.cSndNke then .sndNkeLong c a ci data
  else if codeOf p c = p.cReqUd2 then .reqUd2Long c a ci data
  else if codeOf p c = p.cSndUd ∧ ci = p.ciDataSend ∧ isSetAddr data then
    .setAddr c a (newAddress data) (data.drop 3)
  else if codeOf p c = p.cSndUd ∧ ci = p.ciSelectSlave then
    if data.length = selDataLen then .select c a (selMask data) (selTail data)
    else .selectBadlen c a data
  else .ignoreUnknown (.control c a ci data)

/-- The row of a well-formed frame: the command map (30_encoding.md R91). -/
def commandRow (p : Params) (primary : Byte) : Frame → Instr
  | .ack => .ack
  | .short c a => shortRow p primary c a
  | .control c a ci data => longRow p primary c a ci data

/-- The row of a verdict and the bytes it consumed. -/
def rowOf (p : Params) (primary : Byte) (v : Decoded) (used : List Byte) : Instr :=
  match v with
  | .ok f => commandRow p primary f
  | .err e => rejectionOf e used

/-- The decoder: the instruction at the head of a buffer that starts at a frame boundary, and the
bytes after it (40_frame_codec.md R113, R126). -/
def decode (p : Params) (primary : Byte) (buf : List Byte) : Instr × List Byte :=
  let r := decodeFrame buf
  (rowOf p primary r.1 (buf.take r.2), buf.drop r.2)

/-- The frame an inbound frame row stands for; the other rows are no frame. -/
def Instr.frame? (p : Params) : Instr → Option Frame
  | .ack => some .ack
  | .ignoreBcastNoreplyShort c => some (.short c addrBcastNoreply)
  | .ignoreBcastNoreplyLong c ci data => some (.control c addrBcastNoreply ci data)
  | .ignoreNotForUs f => some f
  | .sndNke c a => some (.short c a)
  | .sndNkeLong c a ci data => some (.control c a ci data)
  | .reqUd2 c a => some (.short c a)
  | .reqUd2Long c a ci data => some (.control c a ci data)
  | .setAddr c a new extra =>
    some (.control c a p.ciDataSend (setaddrB0 :: setaddrB1 :: new :: extra))
  | .select c a mask tail => some (.control c a p.ciSelectSlave (mask.toList ++ tail.toList))
  | .selectBadlen c a data => some (.control c a p.ciSelectSlave data)
  | .ignoreUnknown f => some f
  | .errBadstartLead _ | .errShortBadchecksum .. | .errShortBadstop .. | .errLongLengthmismatch ..
  | .errLongShortlength _ | .errLongBadstart2 .. | .errLongBadchecksum .. | .errLongBadstop ..
  | .errTruncated _ | .ackOut _ | .rspOut | .reset _ | .rxbyte _ | .rxgap | .rxerr | .shutdown
  | .fatal | .tx .. | .verdict _ | .setbaud | .checksum _ | .checksumVerify .. | .decode _
  | .encode _ | .matchPrimary .. | .matchSecondary .. | .execute _ => none

/-- The bytes of a rejection row (30_encoding.md R92); the other rows are no rejection. -/
def Instr.rejected? : Instr → Option (List Byte)
  | .errBadstartLead x => some [x]
  | .errShortBadchecksum c a x z => some [startShort, c, a, x, z]
  | .errShortBadstop c a x => some [startShort, c, a, sum8 [c, a], x]
  | .errLongLengthmismatch l1 l2 => some [startLong, l1, l2]
  | .errLongShortlength l => some [startLong, l, l]
  | .errLongBadstart2 l x => some [startLong, l, l, x]
  | .errLongBadchecksum c a ci data x z =>
    let L := BitVec.ofNat 8 (3 + data.length)
    some ([startLong, L, L, startLong, c, a, ci] ++ data ++ [x, z])
  | .errLongBadstop c a ci data x =>
    let L := BitVec.ofNat 8 (3 + data.length)
    some ([startLong, L, L, startLong, c, a, ci] ++ data ++ [sum8 (c :: a :: ci :: data), x])
  | .errTruncated part => some part
  | .ack | .ignoreBcastNoreplyShort _ | .ignoreBcastNoreplyLong .. | .ignoreNotForUs _ | .sndNke ..
  | .sndNkeLong .. | .reqUd2 .. | .reqUd2Long .. | .setAddr .. | .select .. | .selectBadlen ..
  | .ignoreUnknown _ | .ackOut _ | .rspOut | .reset _ | .rxbyte _ | .rxgap | .rxerr | .shutdown
  | .fatal | .tx .. | .verdict _ | .setbaud | .checksum _ | .checksumVerify .. | .decode _
  | .encode _ | .matchPrimary .. | .matchSecondary .. | .execute _ => none

/-- The encoder: the bytes of an inbound row in wire order. Rows that no received bytes spell (the
outbound frames, the events and the functions) have none. -/
def encode (p : Params) (i : Instr) : Option (List Byte) :=
  match i.frame? p with
  | some f => some (encodeFrame f)
  | none => i.rejected?

/-- The instruction of an input event (43_transport.md R190): its Event row. -/
def eventInstr : Event → Instr
  | .reset cfg => .reset cfg
  | .rx b => .rxbyte b
  | .gap => .rxgap
  | .rxerr => .rxerr
  | .shutdown => .shutdown
  | .fatal => .fatal

/-- `n` bytes of `w`, bits 7..0 first. -/
def wordBytes : Nat → Nat → List Byte
  | 0, _ => []
  | n + 1, w => BitVec.ofNat 8 w :: wordBytes n (w / 256)

/-- The bytes of an instruction whose table bits are `w`: `nbits` bits in whole bytes, then zeros up
to the longest frame (log entry 20). -/
def tableBytes (nbits w : Nat) : List Byte :=
  let k := (nbits + 7) / 8
  wordBytes k (w % 2 ^ nbits) ++ List.replicate (maxFrame - k) 0#8

/-- The instruction the decoder reads from a table word, with the default parameters and the primary
address `State.reset` has. -/
def decodeTableWord (nbits w : Nat) : Option Instr :=
  some (decode defaultParams bootCfg.primary (tableBytes nbits w)).1

end Sys2Proof
end

