-- ==== Sys2Proof/Machine/Fetch.lean ====
section
/-!
DEFINITION. Fetching: the next instruction is the row of the first pending input event
(00_scope.md R6). The block fetches nothing from a memory (10_state.md R24).
-/
namespace Sys2Proof.Machine

/-- The instruction of the first pending event and the state without that event; none while the block
waits at receive. -/
def fetch (s : State) : Option (Instr × State) :=
  match s.inq with
  | [] => none
  | ev :: _ => some (eventInstr ev, s.takeEvent)

/-- Place the instruction of a table word where the next step takes it (log entry 20): of its bytes,
padded with zeros, those one decode accounts for. -/
def placeWord (s : State) (nbits w : Nat) : State :=
  let bytes := tableBytes nbits w
  s.placeFrame (bytes.take (decodeFrame bytes).2)

end Sys2Proof.Machine
end

