-- ==== Sys2Proof/Machine/Step.lean ====
section
/-!
DEFINITION. One step: one input event (00_scope.md R6). The first pending event is taken off the queue
and its instruction is executed; with no event pending the block waits (00_scope.md R5).
-/
namespace Sys2Proof.Machine

/-- The step of the block (00_scope.md R6, 20_memory.md R62). An empty queue changes nothing: the loop
is suspended at receive (43_transport.md R191; log entry 1). -/
def step (s : State) : Host.Outcome State Fault Refusal :=
  match fetch s with
  | none => .next s
  | some (i, t) => exec i t

/-- `s` with the instruction of a table word where the next step takes it: its bytes but the last in
RXBUF, the last byte the next event, the block listening (log entry 20). -/
def State.withFetchWord (s : State) (nbits w : Nat) : State := placeWord s nbits w

end Sys2Proof.Machine
end

