-- ==== Sys2Proof/Safety.lean ====
section
/-!
DEFINITION. What counts as a safe run, and the terms the claims use.
-/
namespace Sys2Proof.Machine

/-- The invariant of a listening block: RXBUF is a proper prefix of a frame (10_state.md R34), RESP.A
is PRIMARY (R31), and the response fits a frame (R30). After a failed RESET the registers are
unspecified (70_reset_and_hazards.md R240), so HALT promises nothing. -/
abbrev Inv (s : State) : Prop :=
  s.runstate = .run →
    rxClassify s.rxbuf = .more ∧ s.resp.a = s.primary ∧ Memory.wf maxPayload s.resp.data = true

/-- The FrameError a rejection row raises (30_encoding.md R92); none for the other rows. -/
def rejectionError : Instr → Option FrameError
  | .errBadstartLead _ => some .badStart
  | .errShortBadchecksum .. => some .badChecksum
  | .errShortBadstop .. => some .badStop
  | .errLongLengthmismatch .. => some .lengthMismatch
  | .errLongShortlength _ => some .lengthMismatch
  | .errLongBadstart2 .. => some .badStart
  | .errLongBadchecksum .. => some .badChecksum
  | .errLongBadstop .. => some .badStop
  | .errTruncated _ => some .truncated
  | _ => none

/-- The instruction is RESET, the one writer of the read-only registers (10_state.md R36). -/
def isReset : Instr → Bool
  | .reset _ => true
  | _ => false

/-- The event is RESET. -/
def isResetEvent : Event → Bool
  | .reset _ => true
  | _ => false

/-- `n` steps, as the host runs them, stopping at a fault or a refusal. -/
def steps (n : Nat) (s : State) : Host.Outcome State Fault Refusal :=
  Host.Core.run Sys2Proof.core n s

/-- The verdict a decode result is reported as (43_transport.md R199). -/
def verdictOf : Decoded → Verdict
  | .ok f => .ok f
  | .err e => .err (.frame e)

/-- The number of TX outputs. -/
def txCount (outs : List Output) : Nat := (txBytes outs).length

/-- The output is a VERDICT. -/
def isVerdict : Output → Bool
  | .verdict _ => true
  | _ => false

/-- The output is a VERDICT that carries the codec's result: Ok or a FrameError, a verdict in the narrow
sense of the glossary of 00_scope.md; AddressingError and TransportError are reports
(43_transport.md R196). -/
def isCodecVerdict : Output → Bool
  | .verdict (.ok _) => true
  | .verdict (.err (.frame _)) => true
  | _ => false

/-- The frame is a selection for us: SND_UD with CI SELECT_SLAVE, its payload `data`
(30_encoding.md R91, line 7). -/
def isSelection (s : State) (f : Frame) (data : List Byte) : Prop :=
  ∃ c a, f = .control c a s.par.ciSelectSlave data ∧ heard s.primary a = true ∧
    codeOf s.par c = s.par.cSndUd

/-- The frame is a SND_NKE to the network-layer address. -/
def isNetworkNke (s : State) (f : Frame) : Prop :=
  ∃ c, codeOf s.par c = s.par.cSndNke ∧
    (f = .short c addrNetwork ∨ ∃ ci data, f = .control c addrNetwork ci data)

/-- The next event completes frame `f`. -/
def completes (s : State) (f : Frame) : Prop :=
  s.runstate = .run ∧ ∃ b rest, s.inq = .rx b :: rest ∧ rxClassify (s.rxbuf ++ [b]) = .done f

/-- `s` with other values in the registers no rule reads: MANUF, MEDIUM, VERSION, DEBUG and, but for
SETBAUD, BAUD (10_state.md R23, R27). -/
def withInert (s : State) (manuf : BitVec 16) (medium version : Byte) (debug : Bool) (baud : Rate) :
    State :=
  { s with manuf := manuf, medium := medium, version := version, debug := debug, baud := baud }

end Sys2Proof.Machine
end

