-- ==== Sys2Proof/Certificates/Slice0/Obligations.lean ====
section
/-!
DEFINITION. The statements for the provers. Each docstring names the rules of spec/ it formalises. A
statement about an inbound frame assumes that the block listens (RUNSTATE = RUN) and, where it says so,
that the frame's address is not 255 and for us (`heard`); the other cases have statements of their own.
-/

open Sys2Proof Sys2Proof.Machine

/-! ### Reset and boot -/

/-- 10_state.md R35: the values the spec states for reset. PRIMARY is the default of CFG_PRIMARY. -/
def Obligations.ResetStateHasSpecValues : Prop :=
  State.reset.primary = 0#8 ∧ State.reset.selected = false ∧
  State.reset.resp.a = State.reset.primary ∧ State.reset.rxbuf = [] ∧
  State.reset.runstate = .run ∧ State.reset.outs = [.setbaud State.reset.baud]

/-- `State.reset` is what RESET(bootCfg) leaves, from any registers. The values of `bootCfg` are the
model's choice (log entry 8), those of the parameters are presumed (log entry 3). -/
def Obligations.ResetStateIsResetOfBootConfiguration : Prop :=
  ∀ s : State, s.par = defaultParams → s.inq = [] → s.outs = [] → s.draws = 0 → s.ret = none →
    exec (.reset bootCfg) s = .next State.reset

/-- 70_reset_and_hazards.md R240, both branches, and R241 (SETBAUD once, in the reset step). The
registers of a failed reset are some record `r`, of which nothing is said. -/
def Obligations.ResetLoadsEveryRegisterOrHalts : Prop :=
  ∀ (s : State) (cfg : Cfg),
    (∀ secid resp, cfg.ok = true → quadOf cfg.secid = some secid →
      respOfCfg cfg.resp = some resp →
      exec (.reset cfg) s = .next { s with
        primary := cfg.primary, selected := false, secid := secid, manuf := cfg.manuf,
        medium := cfg.medium, version := cfg.version,
        resp := { c := resp.c, a := cfg.primary, ci := resp.ci, data := resp.data },
        rxbuf := [], baud := cfg.baud, debug := cfg.debug,
        outs := s.outs ++ [.setbaud cfg.baud], runstate := .run }) ∧
    ((cfg.ok = false ∨ quadOf cfg.secid = none ∨ respOfCfg cfg.resp = none) →
      ∃ r, exec (.reset cfg) s =
        .next { s with toRegs := r, runstate := .halt, draws := s.draws + 1 })

/-- 70_reset_and_hazards.md R243: a configuration starts the block iff the transport opened, the id is
four bytes, and the response is exactly one well-formed control/long frame. -/
def Obligations.StartupAcceptsWellFormedConfigurationsOnly : Prop :=
  ∀ cfg : Cfg, (regsOfCfg cfg).isSome = true ↔
    cfg.ok = true ∧ cfg.secid.length = 4 ∧
    (cfg.resp = .builtin ∨
     (∃ b c a ci payload, cfg.resp = .raw b ∧
        decodeFrame b = (.ok (.control c a ci payload), b.length)) ∨
     (∃ c a ci payload, cfg.resp = .fields c a ci payload ∧ payload.length ≤ 252))

/-- A raw blob is accepted as a response exactly when it is the encoding of that response's frame
under some address byte (70_reset_and_hazards.md R243 with 40_frame_codec.md R132). -/
def Obligations.AcceptedBlobIsEncodedFrame : Prop :=
  ∀ (b : List Byte) (r : Resp), respOfBlob b = some r ↔
    r.data.length ≤ 252 ∧ b = encodeFrame (.control r.c r.a r.ci r.data)

/-! ### The frame codec -/

/-- 40_frame_codec.md R130 and 30_encoding.md R81 to R83: the bytes of each format. -/
def Obligations.EncodedFrameBytes : Prop :=
  encodeFrame .ack = [0xE5#8] ∧
  (∀ c a, encodeFrame (.short c a) = [0x10#8, c, a, sum8 [c, a], 0x16#8]) ∧
  (∀ c a ci payload, payload.length ≤ 252 →
    encodeFrame (.control c a ci payload) =
      [0x68#8, BitVec.ofNat 8 (3 + payload.length), BitVec.ofNat 8 (3 + payload.length), 0x68#8,
        c, a, ci] ++ payload ++ [sum8 (c :: a :: ci :: payload), 0x16#8])

/-- 40_frame_codec.md R132, the round-trip laws (a), (b) and (c). -/
def Obligations.CodecRoundTrip : Prop :=
  (∀ f, frameFits f = true → decodeFrame (encodeFrame f) = (.ok f, (encodeFrame f).length)) ∧
  (∀ buf f k, decodeFrame buf = (.ok f, k) → encodeFrame f = buf.take k) ∧
  (∀ buf buf' f, decodeFrame buf = (.ok f, buf.length) → decodeFrame buf' = (.ok f, buf'.length) →
    buf = buf')

/-- 40_frame_codec.md R133: any other checksum byte gives BadChecksum over the whole frame. The
checksum is the last byte but one. -/
def Obligations.CorruptedChecksumIsRejected : Prop :=
  ∀ (f : Frame) (x : Byte), frameFits f = true → f ≠ .ack → x ≠ checksum f →
    decodeFrame ((encodeFrame f).set ((encodeFrame f).length - 2) x) =
      (.err .badChecksum, (encodeFrame f).length)

/-- 40_frame_codec.md R113: DECODE is the scan for the shortest prefix that is not MORE, Truncated if
there is none; what follows the consumed bytes takes no part. -/
def Obligations.DecodeIsShortestVerdict : Prop :=
  ∀ buf : List Byte,
    (∀ f k, decodeFrame buf = (.ok f, k) ↔
      1 ≤ k ∧ k ≤ buf.length ∧ (∀ j, j < k → rxClassify (buf.take j) = .more) ∧
      rxClassify (buf.take k) = .done f) ∧
    (∀ e k, e ≠ .truncated → (decodeFrame buf = (.err e, k) ↔
      1 ≤ k ∧ k ≤ buf.length ∧ (∀ j, j < k → rxClassify (buf.take j) = .more) ∧
      rxClassify (buf.take k) = .err e)) ∧
    ((∀ k, k ≤ buf.length → rxClassify (buf.take k) = .more) →
      decodeFrame buf = (.err .truncated, buf.length)) ∧
    (∀ v k rest, decodeFrame buf = (v, k) → v ≠ .err .truncated →
      decodeFrame (buf.take k ++ rest) = (v, k))

/-- 40_frame_codec.md R123: Truncated, all bytes consumed, exactly when every prefix classifies as
MORE; the empty buffer is the limiting case. -/
def Obligations.TruncatedExactlyInsideAFrame : Prop :=
  (∀ buf : List Byte, decodeFrame buf = (.err .truncated, buf.length) ↔
    ∀ k, k ≤ buf.length → rxClassify (buf.take k) = .more) ∧
  (∀ (buf : List Byte) (k : Nat), decodeFrame buf = (.err .truncated, k) → k = buf.length)

/-- 40_frame_codec.md R114 and R122: an ACK is one byte; an unknown lead byte is consumed alone. -/
def Obligations.LeadByteDecidesAckAndBadStart : Prop :=
  (∀ rest, decodeFrame (0xE5#8 :: rest) = (.ok .ack, 1)) ∧
  (∀ x rest, x ≠ 0xE5#8 → x ≠ 0x10#8 → x ≠ 0x68#8 →
    decodeFrame (x :: rest) = (.err .badStart, 1))

/-- 40_frame_codec.md R115: DECODE of a Short frame, checksum before stop. -/
def Obligations.ShortFrameDecoding : Prop :=
  (∀ buf : List Byte, buf.length < 4 →
    decodeFrame (0x10#8 :: buf) = (.err .truncated, buf.length + 1)) ∧
  (∀ c a x z rest, decodeFrame (0x10#8 :: c :: a :: x :: z :: rest) =
    if x ≠ sum8 [c, a] then (.err .badChecksum, 5)
    else if z ≠ 0x16#8 then (.err .badStop, 5)
    else (.ok (.short c a), 5))

/-- 40_frame_codec.md R117, R118 and R119: the header of a Control frame, in wire order. -/
def Obligations.LongHeaderDecoding : Prop :=
  (∀ l1 l2 rest, l1 ≠ l2 →
    decodeFrame (0x68#8 :: l1 :: l2 :: rest) = (.err .lengthMismatch, 3)) ∧
  (∀ (l : Byte) rest, l.toNat < 3 →
    decodeFrame (0x68#8 :: l :: l :: rest) = (.err .lengthMismatch, 3)) ∧
  (∀ (l x : Byte) rest, 3 ≤ l.toNat → x ≠ 0x68#8 →
    decodeFrame (0x68#8 :: l :: l :: x :: rest) = (.err .badStart, 4))

/-- 40_frame_codec.md R121: the trailer of a Control frame whose header is accepted and whose L + 6
bytes are present: checksum before stop, the whole declared length consumed. -/
def Obligations.LongTrailerDecoding : Prop :=
  ∀ (l c a ci x z : Byte) (payload rest : List Byte), l.toNat = 3 + payload.length →
    decodeFrame ([0x68#8, l, l, 0x68#8, c, a, ci] ++ payload ++ [x, z] ++ rest) =
      if x ≠ sum8 (c :: a :: ci :: payload) then (.err .badChecksum, l.toNat + 6)
      else if z ≠ 0x16#8 then (.err .badStop, l.toNat + 6)
      else (.ok (.control c a ci payload), l.toNat + 6)

/-- Consequences of 10_state.md R34 for a buffer that classifies as MORE. -/
def Obligations.PartialFrameIsShortAndStarted : Prop :=
  ∀ buf : List Byte, rxClassify buf = .more →
    buf.length ≤ 260 ∧ (buf ≠ [] → byteAt buf 0 = 0x10#8 ∨ byteAt buf 0 = 0x68#8)

/-! ### Instruction encoding -/

/-- Words of 95_test_vectors.md decode to the rows they stand for (30_encoding.md R91, R92), with the
default parameters (presumed, log entry 3) and primary address 5. -/
def Obligations.SpecWordsDecode : Prop :=
  decode defaultParams 5#8 [0x10#8, 0x40#8, 0x05#8, 0x45#8, 0x16#8] = (.sndNke 0x40#8 5#8, []) ∧
  decode defaultParams 5#8 [0x10#8, 0x7B#8, 0x05#8, 0x80#8, 0x16#8] = (.reqUd2 0x7B#8 5#8, []) ∧
  decode defaultParams 5#8 [0x68#8, 0x06#8, 0x06#8, 0x68#8, 0x53#8, 0xFD#8, 0x51#8, 0x01#8, 0x7A#8,
    0x09#8, 0x25#8, 0x16#8] = (.setAddr 0x53#8 253#8 9#8 [], []) ∧
  decode defaultParams 5#8 [0x10#8, 0x5B#8, 0x06#8, 0x61#8, 0x16#8] =
    (.ignoreNotForUs (.short 0x5B#8 6#8), []) ∧
  decode defaultParams 5#8 [0x68#8, 0x06#8, 0x07#8, 0x68#8] =
    (.errLongLengthmismatch 6#8 7#8, [0x68#8]) ∧
  decode defaultParams 5#8 [0xE5#8, 0x10#8] = (.ack, [0x10#8])

/-- Decode inverts encode on every well-formed inbound row (rows 1 to 21), every operand at every
value it admits (30_encoding.md R91, R92, R97). -/
def Obligations.DecodeInvertsEncode : Prop :=
  ∀ (p : Params) (primary : Byte) (i : Instr) (bytes : List Byte), p.wf = true →
    i.wf p primary = true → encode p i = some bytes → decode p primary bytes = (i, [])

/-- Encode inverts decode: every non-empty buffer decodes to a well-formed row whose encoding is the
bytes it was read from, the rest following (30_encoding.md R91, R92). -/
def Obligations.EncodeInvertsDecode : Prop :=
  ∀ (p : Params) (primary : Byte) (buf : List Byte) (i : Instr) (rest : List Byte),
    buf ≠ [] → decode p primary buf = (i, rest) →
    i.wf p primary = true ∧ ∃ bytes, encode p i = some bytes ∧ bytes ++ rest = buf

/-! ### The step -/

/-- 00_scope.md R6, 20_memory.md R62: a step takes the first pending event and executes its
instruction. With no event pending nothing changes (the model's choice, log entry 1). -/
def Obligations.StepExecutesFirstEvent : Prop :=
  (∀ (s : State) (ev : Event) (rest : List Event), s.inq = ev :: rest →
    step s = exec (eventInstr ev) { s with inq := rest }) ∧
  (∀ s : State, s.inq = [] → step s = .next s)

/-- The byte that completes a row runs that row: in a listening block whose buffer is a proper prefix,
the step of a byte is `exec` of the decoded instruction. For a well-formed frame the byte is taken,
RXBUF is emptied and VERDICT(Ok(f)) is emitted first; for a rejection the byte is taken; a byte that
completes nothing is appended (40_frame_codec.md R125). -/
def Obligations.StepRunsDecodedInstruction : Prop :=
  ∀ (s : State) (b : Byte) (rest : List Event) (i : Instr), s.runstate = .run →
    s.inq = .rx b :: rest → rxClassify s.rxbuf = .more →
    decode s.par s.primary (s.rxbuf ++ [b]) = (i, []) →
    (∀ f, rxClassify (s.rxbuf ++ [b]) = .done f →
      step s = exec i { s with inq := rest, rxbuf := [], outs := s.outs ++ [.verdict (.ok f)] }) ∧
    (∀ e, rxClassify (s.rxbuf ++ [b]) = .err e → step s = exec i { s with inq := rest }) ∧
    (rxClassify (s.rxbuf ++ [b]) = .more →
      step s = .next { s with inq := rest, rxbuf := s.rxbuf ++ [b] })

/-- The step after `withFetchWord` runs the table word's instruction, with the default parameters and
primary address (log entry 20). -/
def Obligations.FetchWordRunsTableInstruction : Prop :=
  ∀ (s : State) (nbits w : Nat), s.par = defaultParams → s.primary = bootCfg.primary →
    ∃ i, decodeTableWord nbits w = some i ∧
      ((∃ e, rejectionError i = some e ∧ step (s.withFetchWord nbits w) =
          exec i { s with runstate := .run }) ∨
       (∃ f, Instr.frame? s.par i = some f ∧ step (s.withFetchWord nbits w) =
          exec i { s with
            rxbuf := [], runstate := .run, outs := s.outs ++ [.verdict (.ok f)] }))

/-- 40_frame_codec.md R126: feeding `buf` byte by byte into an empty RXBUF, then a GAP. The first
verdict is DECODE's; it is emitted on the byte with index consumed - 1, nothing before it; the bytes
after it meet an empty buffer again. For Truncated it is emitted on the GAP; for no bytes at all the
GAP emits nothing. -/
def Obligations.ByteStreamAgreesWithDecode : Prop :=
  ∀ (s : State) (buf : List Byte) (after : List Event) (v : Decoded) (k : Nat),
    s.runstate = .run → s.rxbuf = [] → s.inq = buf.map .rx ++ .gap :: after →
    decodeFrame buf = (v, k) →
    (v ≠ .err .truncated →
      steps (k - 1) s = .next { s with
        rxbuf := buf.take (k - 1), inq := (buf.drop (k - 1)).map .rx ++ .gap :: after } ∧
      ∃ t more, steps k s = .next t ∧ t.runstate = .run ∧ t.rxbuf = [] ∧
        t.inq = (buf.drop k).map .rx ++ .gap :: after ∧
        t.outs = s.outs ++ .verdict (verdictOf v) :: more) ∧
    (buf = [] → steps 1 s = .next { s with inq := after }) ∧
    (v = .err .truncated → buf ≠ [] →
      steps buf.length s = .next { s with rxbuf := buf, inq := .gap :: after } ∧
      steps (buf.length + 1) s = .next { s with
        rxbuf := [], inq := after, outs := s.outs ++ [.verdict (.err (.frame .truncated))] })

/-! ### Input events -/

/-- 40_frame_codec.md R125: RXBYTE while RUNSTATE is RUN, and in HALT. -/
def Obligations.ReceivedByteEffect : Prop :=
  ∀ (s : State) (b : Byte), (s.runstate = .halt → exec (.rxbyte b) s = .next s) ∧
    (s.runstate = .run →
    (rxClassify (s.rxbuf ++ [b]) = .more →
      exec (.rxbyte b) s = .next { s with rxbuf := s.rxbuf ++ [b] }) ∧
    (∀ e, rxClassify (s.rxbuf ++ [b]) = .err e →
      exec (.rxbyte b) s = .next { s with
        rxbuf := [], outs := s.outs ++ [.verdict (.err (.frame e))] }) ∧
    (∀ f, rxClassify (s.rxbuf ++ [b]) = .done f →
      exec (.rxbyte b) s = .next (executeFrame
        { s with rxbuf := [], outs := s.outs ++ [.verdict (.ok f)] } f)))

/-- 40_frame_codec.md R128: GAP while RUNSTATE is RUN. -/
def Obligations.GapEffect : Prop :=
  ∀ s : State, s.runstate = .run →
    exec .rxgap s = .next (if s.rxbuf = [] then s else
      { s with rxbuf := [], outs := s.outs ++ [.verdict (.err (.frame .truncated))] })

/-- 43_transport.md R193: RXERR while RUNSTATE is RUN. -/
def Obligations.ReceiveErrorEffect : Prop :=
  ∀ s : State, s.runstate = .run →
    exec .rxerr s = .next
      { s with rxbuf := [], outs := s.outs ++ [.verdict (.err .transportReceive)] }

/-- 60_exceptions.md R224 and R225: SHUTDOWN and FATAL halt, whatever stands in RXBUF. -/
def Obligations.ShutdownAndFatalHalt : Prop :=
  ∀ s : State, exec .shutdown s = .next { s with runstate := .halt } ∧
    exec .fatal s = .next { s with runstate := .halt }

/-- 60_exceptions.md R225: FATAL halts; in HALT a step consumes any event but RESET, with no other
change and no output. -/
def Obligations.HaltConsumesEventsSilently : Prop :=
  (∀ s : State, exec .fatal s = .next { s with runstate := .halt }) ∧
  ∀ (s : State) (ev : Event) (rest : List Event), s.runstate = .halt → s.inq = ev :: rest →
    isResetEvent ev = false → step s = .next { s with inq := rest }

/-- 10_state.md R28, 60_exceptions.md R225, over all instructions: in HALT none but RESET changes
anything or emits anything. A function row still returns its value (log entries 10 and 13). -/
def Obligations.OnlyResetLeavesHalt : Prop :=
  ∀ (i : Instr) (s t : State), s.runstate = .halt → isReset i = false → exec i s = .next t →
    t = { s with ret := t.ret }

/-! ### Errors -/

/-- 60_exceptions.md R214: each of the nine rejection rows (ERR_BADSTART_LEAD,
ERR_SHORT_BADCHECKSUM, ERR_SHORT_BADSTOP, ERR_LONG_LENGTHMISMATCH, ERR_LONG_SHORTLENGTH,
ERR_LONG_BADSTART2, ERR_LONG_BADCHECKSUM, ERR_LONG_BADSTOP, ERR_TRUNCATED) empties RXBUF, emits the
verdict of its error and does nothing else. -/
def Obligations.RejectionRowsRaise : Prop :=
  ∀ (i : Instr) (e : FrameError) (s : State), rejectionError i = some e → s.runstate = .run →
    exec i s = .next { s with rxbuf := [], outs := s.outs ++ [.verdict (.err (.frame e))] }

/-! ### Commands -/

/-- 42_slave_commands.md R160: SND_NKE, Short and Control, with the rule's choice for address 253
(NKE_NETLAYER_ACK false, log entry 4); the delay is within its bound. -/
def Obligations.SndNkeEffect : Prop :=
  ∀ (s : State) (c a ci : Byte) (data : List Byte) (i : Instr),
    i = .sndNke c a ∨ i = .sndNkeLong c a ci data →
    s.runstate = .run → heard s.primary a = true → s.par.nkeNetlayerAck = false →
    exec i s = .next (if a = s.primary ∨ a = 254#8 then
      { s with
        selected := if a = 253#8 then false else s.selected
        draws := s.draws + 1
        outs := s.outs ++ [.tx (.draw s.draws) [0xE5#8]] }
      else { s with selected := if a = 253#8 then false else s.selected }) ∧
    delayValue (.draw s.draws) ≤ Config.ackDelayMax

/-- 93_implementation_defined.md U1: under the other value of NKE_NETLAYER_ACK a SND_NKE to 253 is
acknowledged too; the effect on SELECTED is the same. The model's parameter (log entry 4). -/
def Obligations.SndNkeNetworkAckParameter : Prop :=
  ∀ (s : State) (c ci : Byte) (data : List Byte) (i : Instr),
    i = .sndNke c 253#8 ∨ i = .sndNkeLong c 253#8 ci data →
    s.runstate = .run → s.par.nkeNetlayerAck = true →
    exec i s = .next { s with
      selected := false
      draws := s.draws + 1
      outs := s.outs ++ [.tx (.draw s.draws) [0xE5#8]] }

/-- 42_slave_commands.md R165: REQ_UD2, Short and Control. -/
def Obligations.ReqUd2Effect : Prop :=
  ∀ (s : State) (c a ci : Byte) (data : List Byte) (i : Instr),
    i = .reqUd2 c a ∨ i = .reqUd2Long c a ci data →
    s.runstate = .run → heard s.primary a = true →
    exec i s = .next (if s.selected = true ∨ a = s.primary then
      { s with
        resp := { s.resp with a := s.primary }
        outs := s.outs ++ [.tx .zero
          (encodeFrame (.control s.resp.c s.primary s.resp.ci s.resp.data))] }
      else s)

/-- 42_slave_commands.md R170: SET_ADDR, honoured only while Selected, NEW stored as it is, further
bytes ignored; a DATA_SEND payload that is no set-address command is ignored. -/
def Obligations.SetAddrEffect : Prop :=
  ∀ (s : State) (c a : Byte), s.runstate = .run → heard s.primary a = true →
    (∀ (new : Byte) (extra : List Byte),
      exec (.setAddr c a new extra) s = .next (if s.selected = true then
        { s with
          primary := new
          resp := { s.resp with a := new }
          outs := s.outs ++ [.tx .zero [0xE5#8]] }
        else s)) ∧
    (∀ payload : List Byte, s.par.wf = true → codeOf s.par c = s.par.cSndUd →
      ¬ (3 ≤ payload.length ∧ byteAt payload 0 = 0x01#8 ∧ byteAt payload 1 = 0x7A#8) →
      exec (.execute (.control c a s.par.ciDataSend payload)) s = .next s)

/-- 42_slave_commands.md R175: SELECT with eight bytes of data, and with any other number of bytes
(the AddressingError of 60_exceptions.md R217). -/
def Obligations.SelectEffect : Prop :=
  ∀ (s : State) (c a : Byte), s.runstate = .run → heard s.primary a = true →
    (∀ mask tail, exec (.select c a mask tail) s = .next (if maskMatches mask s.secid = true then
      { s with selected := true, outs := s.outs ++ [.tx .zero [0xE5#8]] }
      else { s with selected := false })) ∧
    (∀ data : List Byte, data.length ≠ 8 → exec (.selectBadlen c a data) s = .next
      { s with selected := false, outs := s.outs ++ [.verdict (.err .addressing)] })

/-- 42_slave_commands.md R157 and R180: the rows that ignore their frame change nothing and send
nothing, in any state. -/
def Obligations.IgnoreRowsChangeNothing : Prop :=
  ∀ (s : State) (c ci : Byte) (data : List Byte) (f : Frame),
    exec .ack s = .next s ∧ exec (.ignoreBcastNoreplyShort c) s = .next s ∧
    exec (.ignoreBcastNoreplyLong c ci data) s = .next s ∧
    exec (.ignoreNotForUs f) s = .next s ∧ exec (.ignoreUnknown f) s = .next s

/-- 42_slave_commands.md R180, 20_memory.md R51: a frame to 255, or to an address that is not for us,
does nothing, whatever it carries. EXECUTE of the frame does so by the filters of R155; that a row which
stands for such a frame does nothing either is the model's choice (log entry 14, DEDUCED): R160 to R175
take the row's address as already for us. -/
def Obligations.UnheardFramesDoNothing : Prop :=
  ∀ (s : State) (f : Frame) (a : Byte), frameAddress f = some a → heard s.primary a = false →
    exec (.execute f) s = .next s ∧
    ∀ i, Instr.frame? s.par i = some f → exec i s = .next s

/-- 42_slave_commands.md R155: EXECUTE, the dispatch, the rows of the table tried from the top. -/
def Obligations.ExecuteDispatch : Prop :=
  ∀ (s : State) (c a ci : Byte) (data : List Byte), s.runstate = .run →
    exec (.execute .ack) s = .next s ∧
    exec (.execute (.short c a)) s = .next (
      if a = 255#8 then s
      else if matchesPrimary a s.primary = false then s
      else if c &&& ~~~s.par.fcbMask = s.par.cSndNke then sndNke s a
      else if c &&& ~~~s.par.fcbMask = s.par.cReqUd2 then reqUd2 s a
      else s) ∧
    exec (.execute (.control c a ci data)) s = .next (
      if a = 255#8 then s
      else if matchesPrimary a s.primary = false then s
      else if c &&& ~~~s.par.fcbMask = s.par.cSndNke then sndNke s a
      else if c &&& ~~~s.par.fcbMask = s.par.cReqUd2 then reqUd2 s a
      else if c &&& ~~~s.par.fcbMask = s.par.cSndUd ∧ ci = s.par.ciDataSend ∧ 3 ≤ data.length ∧
          byteAt data 0 = 0x01#8 ∧ byteAt data 1 = 0x7A#8 then setAddr s (byteAt data 2)
      else if c &&& ~~~s.par.fcbMask = s.par.cSndUd ∧ ci = s.par.ciSelectSlave then select s data
      else s)

/-- EXECUTE of a frame is the meaning of the row the command map gives it (30_encoding.md R91). In HALT
both do nothing, the model's choice (log entry 13, DEDUCED). -/
def Obligations.ExecuteIsTheCommandRow : Prop :=
  ∀ (s : State) (f : Frame), exec (.execute f) s = exec (commandRow s.par s.primary f) s

/-- 42_slave_commands.md R156: the FCB bit changes nothing: two frames whose control bytes differ in
FCB bits only have the same effect in every state. -/
def Obligations.FcbChangesNothing : Prop :=
  ∀ (s : State) (c c' a ci : Byte) (data : List Byte),
    c &&& ~~~s.par.fcbMask = c' &&& ~~~s.par.fcbMask →
    exec (.execute (.short c a)) s = exec (.execute (.short c' a)) s ∧
    exec (.execute (.control c a ci data)) s = exec (.execute (.control c' a ci data)) s

/-- 42_slave_commands.md R156 with 00_scope.md R9: with a one-bit FCB mask, exactly two control bytes
select each known code: the code, and the code with the FCB bit. -/
def Obligations.TwoControlBytesPerCode : Prop :=
  ∀ (p : Params) (c code : Byte), p.wf = true → (∃ n, n < 8 ∧ p.fcbMask = 1#8 <<< n) →
    code = p.cSndNke ∨ code = p.cReqUd2 ∨ code = p.cSndUd →
    (codeOf p c = code ↔ c = code ∨ c = code ||| p.fcbMask)

/-! ### Outputs -/

/-- 43_transport.md R197, R199, R201, 40_frame_codec.md R130, 42_slave_commands.md R165: the outbound
frames and the output events, in a listening block. -/
def Obligations.OutputRowsEmit : Prop :=
  ∀ (s : State) (d : Delay) (bytes : List Byte) (v : Verdict), s.runstate = .run →
    exec (.ackOut d) s = .next { s with outs := s.outs ++ [.tx d [0xE5#8]] } ∧
    exec .rspOut s = .next { s with
      resp := { s.resp with a := s.primary }
      outs := s.outs ++ [.tx .zero
        (encodeFrame (.control s.resp.c s.primary s.resp.ci s.resp.data))] } ∧
    exec (.tx d bytes) s = .next { s with outs := s.outs ++ [.tx d bytes] } ∧
    exec (.verdict v) s = .next { s with outs := s.outs ++ [.verdict v] } ∧
    exec .setbaud s = .next { s with outs := s.outs ++ [.setbaud s.baud] }

/-- 43_transport.md R198: what a send puts on the line is a prefix of its bytes, all of them or fewer;
sends reach the line in order and contiguously. Which prefix is a free value (log entry 6). -/
def Obligations.LineCarriesPrefixesInOrder : Prop :=
  (∀ k bytes, sentBytes k bytes <+: bytes) ∧
  (∀ k xs ys, lineFrom k (xs ++ ys) = lineFrom k xs ++ lineFrom (k + xs.length) ys)

/-- 10_state.md R29: every delay is within [0, ACK_DELAY_MAX], whatever the draw. -/
def Obligations.DelaysAreBounded : Prop :=
  ∀ d : Delay, delayValue d ≤ Config.ackDelayMax

/-! ### Functions -/

/-- 40_frame_codec.md R110, R111, R113, R130, R134: the codec's functions return their value and leave
the block as it is. The place of the value is the model's (log entry 10). -/
def Obligations.CodecFunctionsReturn : Prop :=
  ∀ (s : State) (c a ci r : Byte) (data bytes : List Byte) (f : Frame),
    exec (.checksum (.short c a)) s = .next { s with ret := some (.byte (sum8 [c, a])) } ∧
    exec (.checksum (.control c a ci data)) s =
      .next { s with ret := some (.byte (sum8 (c :: a :: ci :: data))) } ∧
    exec (.checksumVerify bytes r) s =
      .next { s with ret := some (.flag (decide (sum8 bytes = r))) } ∧
    exec (.decode bytes) s =
      .next { s with ret := some (.decoded (decodeFrame bytes).1 (decodeFrame bytes).2) } ∧
    exec (.encode f) s = .next { s with ret := some (.bytes (encodeFrame f)) }

/-- 41_address_resolver.md R140 and R142: MATCH_PRIMARY is true for the configured primary address, 254
and 253, and false for any other. -/
def Obligations.MatchPrimaryReturns : Prop :=
  ∀ (s : State) (a p : Byte), exec (.matchPrimary a p) s =
    .next { s with ret := some (.flag (decide (a = p ∨ a = 254#8 ∨ a = 253#8))) }

/-- 41_address_resolver.md R143 and R144: MATCH_SECONDARY, AND over the eight nibbles, after the
length precondition. -/
def Obligations.MatchSecondaryReturns : Prop :=
  ∀ (s : State) (data : List Byte) (id : Quad),
    (data.length ≠ 8 → exec (.matchSecondary data id) s =
      .next { s with ret := some (.matched false (some .addressing)) }) ∧
    (data.length = 8 → ∃ m, exec (.matchSecondary data id) s =
        .next { s with ret := some (.matched m none) } ∧
      (m = true ↔ ∀ n, n < 4 → ∀ lo, lo = 4 ∨ lo = 0 →
        (byteAt data n).extractLsb' lo 4 = 0xF#4 ∨
        (byteAt data n).extractLsb' lo 4 = (byteAt id.toList n).extractLsb' lo 4))

/-- 41_address_resolver.md R146: all wildcards match any id, the id itself matches, and one
non-wildcard nibble that disagrees defeats the match. -/
def Obligations.SecondaryMatchProperties : Prop :=
  ∀ (mask id : Quad),
    maskMatches ⟨0xFF#8, 0xFF#8, 0xFF#8, 0xFF#8⟩ id = true ∧ maskMatches id id = true ∧
    ∀ n lo, n < 4 → lo = 4 ∨ lo = 0 → (byteAt mask.toList n).extractLsb' lo 4 ≠ 0xF#4 →
      (byteAt mask.toList n).extractLsb' lo 4 ≠ (byteAt id.toList n).extractLsb' lo 4 →
      maskMatches mask id = false

/-- 41_address_resolver.md R147: a mask nibble 0xA to 0xE cannot match an id whose nibbles are all
decimal digits. -/
def Obligations.NonDecimalMaskNeverMatches : Prop :=
  ∀ (mask id : Quad),
    (∀ n lo, n < 4 → lo = 4 ∨ lo = 0 → ((byteAt id.toList n).extractLsb' lo 4).toNat ≤ 9) →
    (∃ n lo, n < 4 ∧ (lo = 4 ∨ lo = 0) ∧
      10 ≤ ((byteAt mask.toList n).extractLsb' lo 4).toNat ∧
      ((byteAt mask.toList n).extractLsb' lo 4).toNat ≤ 14) →
    maskMatches mask id = false

/-! ### The machine as a whole -/

/-- Every instruction has an effect on every state: none faults, none is refused (60_exceptions.md
R210 to R219, 93_implementation_defined.md U18). -/
def Obligations.EveryInstructionAnswers : Prop :=
  ∀ (i : Instr) (s : State), ∃ t, exec i s = .next t

/-- 10_state.md R36: SECID, MANUF, MEDIUM, VERSION, RESP.C, RESP.CI, RESP.N, RESP.DATA, BAUD and DEBUG
are written by nothing but RESET; nor does any instruction write the parameters or the queue. -/
def Obligations.ReadOnlyRegistersKept : Prop :=
  ∀ (i : Instr) (s t : State), exec i s = .next t →
    t.par = s.par ∧ t.inq = s.inq ∧
    (isReset i = false →
      t.secid = s.secid ∧ t.manuf = s.manuf ∧ t.medium = s.medium ∧ t.version = s.version ∧
      t.resp.c = s.resp.c ∧ t.resp.ci = s.resp.ci ∧ t.resp.n = s.resp.n ∧
      (∀ k, memRead t.resp.data k = memRead s.resp.data k) ∧ t.baud = s.baud ∧
      t.debug = s.debug)

/-- Frame of every instruction but RESET and the six input events and EXECUTE, whose own statements
give their next state: PRIMARY changes by SET_ADDR only, SELECTED by SND_NKE and SELECT only, RESP.A by
REQ_UD2, SET_ADDR and RSP_OUT only, RUNSTATE by none; every byte of RXBUF stays, but for the rejection
rows, and the draws are counted by SND_NKE only (10_state.md R36). -/
def Obligations.InstructionFrames : Prop :=
  ∀ (i : Instr) (s t : State), exec i s = .next t →
    (match i with
      | .reset _ | .rxbyte _ | .rxgap | .rxerr | .shutdown | .fatal | .execute _ => False
      | _ => True) →
    t.runstate = s.runstate ∧
    ((match i with | .setAddr .. => False | _ => True) → t.primary = s.primary) ∧
    ((match i with
      | .sndNke .. | .sndNkeLong .. | .select .. | .selectBadlen .. => False
      | _ => True) → t.selected = s.selected) ∧
    ((match i with
      | .reqUd2 .. | .reqUd2Long .. | .setAddr .. | .rspOut => False
      | _ => True) → t.resp.a = s.resp.a) ∧
    (rejectionError i = none → ∀ k, memRead t.rxbuf k = memRead s.rxbuf k) ∧
    ((match i with | .sndNke .. | .sndNkeLong .. => False | _ => True) → t.draws = s.draws) ∧
    ((match i with
      | .checksum _ | .checksumVerify .. | .decode _ | .encode _ | .matchPrimary ..
      | .matchSecondary .. => False
      | _ => True) → t.ret = s.ret)

/-- 42_slave_commands.md R182: every way SELECTED can change in a step: a matching selection sets it; a
selection that does not match or has the wrong length, a SND_NKE to 253, or RESET clears it. -/
def Obligations.SelectedTransitions : Prop :=
  ∀ s t : State, step s = .next t → (∀ cfg rest, s.inq ≠ .reset cfg :: rest) →
    (s.selected = false → t.selected = true →
      ∃ f data, completes s f ∧ isSelection s f data ∧ data.length = 8 ∧
        maskMatches (selMask data) s.secid = true) ∧
    (s.selected = true → t.selected = false →
      ∃ f, completes s f ∧ (isNetworkNke s f ∨ ∃ data, isSelection s f data ∧
        (data.length ≠ 8 ∨ maskMatches (selMask data) s.secid = false)))

/-- 10_state.md R21: PRIMARY changes in a step only by RESET, or by a set-address command received
while Selected, whose third payload byte it becomes. -/
def Obligations.PrimaryChangesOnlyByCommand : Prop :=
  ∀ s t : State, step s = .next t → (∀ cfg rest, s.inq ≠ .reset cfg :: rest) →
    t.primary ≠ s.primary →
    s.selected = true ∧ ∃ c a payload, completes s (.control c a s.par.ciDataSend payload) ∧
      heard s.primary a = true ∧ codeOf s.par c = s.par.cSndUd ∧ isSetAddr payload = true ∧
      t.primary = byteAt payload 2

/-- 43_transport.md R196, 42_slave_commands.md R185: what one step emits, but for RESET: verdicts, of
which at most one carries the codec's result, then at most one TX; a TX only in the step of the byte
that completes a well-formed frame. The one step with two VERDICT outputs is that of R217, the second an
AddressingError; that R185 counts the codec's results is the model's reading (log entry 22, DEDUCED). -/
def Obligations.StepOutputShape : Prop :=
  ∀ s t : State, step s = .next t → (∀ cfg rest, s.inq ≠ .reset cfg :: rest) →
    ∃ vs txs, t.outs = s.outs ++ vs ++ txs ∧ (∀ o ∈ vs, isVerdict o = true) ∧ vs.length ≤ 2 ∧
      (vs.filter isCodecVerdict).length ≤ 1 ∧
      txs.length ≤ 1 ∧ (∀ o ∈ txs, ∃ d bytes, o = .tx d bytes) ∧
      (txs ≠ [] → ∃ f, completes s f ∧ vs = [.verdict (.ok f)]) ∧
      (vs.length = 2 → ∃ f, completes s f ∧ vs = [.verdict (.ok f), .verdict (.err .addressing)])

/-- 20_memory.md R64, 70_reset_and_hazards.md R254: after an acknowledged set-address the old address
is dead and the new one, 253 and 254 answer, from the next frame on. An old address 253 or 254 stays
for-us as what it is, and a new address 255 is dropped (42_slave_commands.md R171). -/
def Obligations.AddressChangeBitesAtOnce : Prop :=
  ∀ (s t : State) (c a new c' a' : Byte) (extra : List Byte), s.runstate = .run →
    s.selected = true → heard s.primary a = true → exec (.setAddr c a new extra) s = .next t →
    t.selected = true ∧
    (s.primary ≠ new → s.primary ≠ 253#8 → s.primary ≠ 254#8 →
      ∀ f, frameAddress f = some s.primary → exec (.execute f) t = .next t) ∧
    (a' = new ∨ a' = 253#8 ∨ a' = 254#8 → a' ≠ 255#8 →
      codeOf t.par c' = t.par.cReqUd2 → t.par.cSndNke ≠ t.par.cReqUd2 →
      exec (.execute (.short c' a')) t = .next { t with
        outs := t.outs ++ [.tx .zero
          (encodeFrame (.control t.resp.c new t.resp.ci t.resp.data))] }) ∧
    (new = 255#8 → exec (.execute (.short c' new)) t = .next t)

/-- 42_slave_commands.md R184: executing a frame twice in a row ends in the same registers as executing
it once. In HALT neither changes anything, the model's choice (log entry 13, DEDUCED). -/
def Obligations.RepeatedFrameSameEndState : Prop :=
  ∀ (s t u : State) (f : Frame), exec (.execute f) s = .next t → exec (.execute f) t = .next u →
    u.toRegs = t.toRegs ∧ u.runstate = t.runstate

/-- 10_state.md R23, R27: MANUF, MEDIUM, VERSION, DEBUG and BAUD are inert: in two states that differ
only in them, a step that is no RESET does the same to everything else. -/
def Obligations.InertRegistersDoNotInterfere : Prop :=
  ∀ (s t : State) (manuf : BitVec 16) (medium version : Byte) (debug : Bool) (baud : Rate),
    (∀ cfg rest, s.inq ≠ .reset cfg :: rest) → step s = .next t →
    step (withInert s manuf medium version debug baud) =
      .next (withInert t manuf medium version debug baud)

/-- 10_state.md R29: no state result and no transmitted byte depends on the draws: a step from another
draw position leaves the same registers and sends the same bytes. -/
def Obligations.DrawsDoNotInterfere : Prop :=
  ∀ (s t u : State) (n : Nat), (∀ cfg rest, s.inq ≠ .reset cfg :: rest) → step s = .next t →
    step { s with draws := n } = .next u →
    u.toRegs = t.toRegs ∧ u.runstate = t.runstate ∧ txBytes u.outs = txBytes t.outs

/-- 10_state.md R31 and R34: after every step RESP.A is PRIMARY and RXBUF is a proper prefix of a
frame, while the block listens. -/
def Obligations.StepKeepsInvariant : Prop :=
  ∀ s t : State, Inv s → step s = .next t → Inv t

/-- 10_state.md R31 and R34: the invariant holds after reset. -/
def Obligations.ResetHasInvariant : Prop := Inv State.reset ∧ State.reset.runstate = .run
end

