-- ==== Sys2Proof/Laws/Codec.lean ====
section
/-!
SUPPORT. The codec's functions, said once: what the classifier answers on each kind of buffer, that it
looks at a prefix only, and that the scan of DECODE stops at the first answer that is not MORE.
-/
namespace Sys2Proof.Machine

theorem byteAt_take {buf : List Byte} {i j : Nat} (h : i < j) :
    byteAt (buf.take j) i = byteAt buf i := by
  simp [byteAt, List.getD_eq_getElem?_getD, h]

theorem byteAt_append_left {xs ys : List Byte} {i : Nat} (h : i < xs.length) :
    byteAt (xs ++ ys) i = byteAt xs i := by
  simp [byteAt, List.getD_eq_getElem?_getD, List.getElem?_append_left h]

@[simp] theorem byteAt_cons_zero (b : Byte) (bs : List Byte) : byteAt (b :: bs) 0 = b := rfl

@[simp] theorem byteAt_cons_succ (b : Byte) (bs : List Byte) (i : Nat) :
    byteAt (b :: bs) (i + 1) = byteAt bs i := by
  simp [byteAt]

@[simp] theorem slice_length (s : List Byte) (i j : Nat) :
    (slice s i j).length = min (j + 1 - i) (s.length - i) := by
  simp [slice]

@[simp] theorem rxClassify_nil : rxClassify [] = .more := rfl

theorem rxClassify_ack {buf : List Byte} (h : buf ≠ []) (h0 : byteAt buf 0 = ackByte) :
    rxClassify buf = .done .ack := by
  simp [rxClassify, h, h0]

theorem rxClassify_short {buf : List Byte} (h : buf ≠ []) (h0 : byteAt buf 0 = startShort) :
    rxClassify buf = classifyShort buf := by
  simp [rxClassify, h, h0, startShort, ackByte]

theorem rxClassify_long {buf : List Byte} (h : buf ≠ []) (h0 : byteAt buf 0 = startLong) :
    rxClassify buf = classifyLong buf := by
  simp [rxClassify, h, h0, startLong, startShort, ackByte]

theorem rxClassify_other {buf : List Byte} (h : buf ≠ []) (h1 : byteAt buf 0 ≠ ackByte)
    (h2 : byteAt buf 0 ≠ startShort) (h3 : byteAt buf 0 ≠ startLong) :
    rxClassify buf = .err .badStart := by
  simp [rxClassify, h, h1, h2, h3]

/-- A Short prefix of fewer than five bytes is MORE. -/
theorem classifyShort_more {buf : List Byte} (h : buf.length < 5) : classifyShort buf = .more := by
  simp [classifyShort, h]

/-- A Control prefix whose header is so far acceptable and that is shorter than its frame is MORE. -/
theorem classifyLong_more {buf : List Byte}
    (hl : 3 ≤ buf.length → byteAt buf 1 = byteAt buf 2 ∧ 3 ≤ (byteAt buf 1).toNat)
    (hs : 4 ≤ buf.length → byteAt buf 3 = startLong)
    (hn : buf.length < (byteAt buf 1).toNat + 6) : classifyLong buf = .more := by
  unfold classifyLong
  by_cases h3 : buf.length < 3
  · simp [h3]
  · obtain ⟨h12, hL⟩ := hl (by omega)
    by_cases h4 : buf.length < 4
    · simp [h3, h12, h4]; rw [← h12]; omega
    · have := hs (by omega)
      simp only [h3, h12, h4, this, if_false, ne_eq, not_true]
      rw [← h12]
      simp [hn]; omega

/-- What a MORE answer says of a Control prefix: the header checks it could make hold. -/
theorem classifyLong_more_inv {buf : List Byte} (h : classifyLong buf = .more) :
    (3 ≤ buf.length → byteAt buf 1 = byteAt buf 2 ∧ 3 ≤ (byteAt buf 1).toNat) ∧
    (4 ≤ buf.length → byteAt buf 3 = startLong) ∧
    (4 ≤ buf.length → buf.length < (byteAt buf 1).toNat + 6) := by
  unfold classifyLong at h
  simp only at h
  split_ifs at h <;> (refine ⟨?_, ?_, ?_⟩ <;> intros <;> simp_all <;> omega)

/-- MORE is closed under prefixes: a verdict is final. -/
theorem rxClassify_take_more {buf : List Byte} (h : rxClassify buf = .more) (j : Nat) :
    rxClassify (buf.take j) = .more := by
  by_cases hj : j = 0
  · simp [hj]
  by_cases hb : buf = []
  · simp [hb]
  have hne : buf.take j ≠ [] := by simp [hj, hb]
  have h0 : byteAt (buf.take j) 0 = byteAt buf 0 := byteAt_take (by omega)
  by_cases ha : byteAt buf 0 = ackByte
  · rw [rxClassify_ack hb ha] at h; cases h
  by_cases hs : byteAt buf 0 = startShort
  · rw [rxClassify_short hb hs] at h
    rw [rxClassify_short hne (h0.trans hs)]
    refine classifyShort_more ?_
    have : buf.length < 5 := by
      by_contra hc
      unfold classifyShort at h
      split_ifs at h
    simp; omega
  by_cases hl : byteAt buf 0 = startLong
  · rw [rxClassify_long hb hl] at h
    rw [rxClassify_long hne (h0.trans hl)]
    obtain ⟨i1, i2, i3⟩ := classifyLong_more_inv h
    by_cases h3 : (buf.take j).length < 3
    · simp only [classifyLong, h3, if_true]
    · simp at h3
      have e1 : byteAt (buf.take j) 1 = byteAt buf 1 := byteAt_take (by omega)
      have e2 : byteAt (buf.take j) 2 = byteAt buf 2 := byteAt_take (by omega)
      refine classifyLong_more ?_ ?_ ?_
      · intro _; rw [e1, e2]; exact i1 (by omega)
      · intro h4
        simp at h4
        rw [byteAt_take (by omega)]; exact i2 (by omega)
      · rw [e1]
        have := (i1 (by omega)).2
        simp
        by_cases h4 : 4 ≤ buf.length
        · have := i3 h4; omega
        · omega
  · rw [rxClassify_other hb ha hs hl] at h; cases h

/-- The classifier never answers Truncated: that is the scan's verdict alone. -/
theorem rxClassify_ne_truncated (buf : List Byte) : rxClassify buf ≠ .err .truncated := by
  have hs : classifyShort buf ≠ .err .truncated := by
    unfold classifyShort; split_ifs <;> simp only [ne_eq, reduceCtorEq, not_false_eq_true,
      RxResult.err.injEq]
  have hl : classifyLong buf ≠ .err .truncated := by
    unfold classifyLong; simp only; split_ifs <;> simp only [ne_eq, reduceCtorEq,
      not_false_eq_true, RxResult.err.injEq]
  unfold rxClassify
  split_ifs
  · exact fun h => by cases h
  · exact fun h => by cases h
  · exact hs
  · exact hl
  · exact fun h => by cases h

theorem take_succ_append (taken rest : List Byte) (b : Byte) :
    (taken ++ b :: rest).take (taken.length + 1) = taken ++ [b] := by
  rw [List.take_length_add_append]; rfl

theorem scanFrame_more (taken rest : List Byte)
    (h : ∀ j, taken.length < j → j ≤ taken.length + rest.length →
      rxClassify ((taken ++ rest).take j) = .more) :
    scanFrame taken rest = (.err .truncated, taken.length + rest.length) := by
  induction rest generalizing taken with
  | nil => simp [scanFrame]
  | cons b rest ih =>
    have h1 : rxClassify (taken ++ [b]) = .more := by
      have := h (taken.length + 1) (by omega) (by simp)
      rwa [take_succ_append] at this
    simp only [scanFrame, h1]
    rw [ih]
    · simp; omega
    · intro j hj hj'
      have := h j (by simp at hj; omega) (by simp at hj' ⊢; omega)
      simpa using this

theorem scanFrame_stop (taken rest : List Byte) (k : Nat) (hk : taken.length < k)
    (hk' : k ≤ taken.length + rest.length)
    (h : ∀ j, taken.length < j → j < k → rxClassify ((taken ++ rest).take j) = .more) :
    (∀ f, rxClassify ((taken ++ rest).take k) = .done f → scanFrame taken rest = (.ok f, k)) ∧
    (∀ e, rxClassify ((taken ++ rest).take k) = .err e → scanFrame taken rest = (.err e, k)) := by
  induction rest generalizing taken with
  | nil => simp at hk'; omega
  | cons b rest ih =>
    have e1 : (taken ++ b :: rest).take (taken.length + 1) = taken ++ [b] := by
      exact take_succ_append taken rest b
    by_cases hk1 : k = taken.length + 1
    · subst hk1
      rw [e1]
      refine ⟨fun f hf => ?_, fun e he => ?_⟩
      · simp [scanFrame, hf]
      · simp [scanFrame, he]
    · have h1 := h (taken.length + 1) (by omega) (by omega)
      rw [e1] at h1
      have := ih (taken ++ [b]) (by simp; omega) (by simp at hk' ⊢; omega)
        (by intro j hj hj'; simpa using h j (by simp at hj; omega) hj')
      simpa [scanFrame, h1] using this

/-- The scan over a whole buffer, every prefix of which is MORE. -/
theorem decodeFrame_more {buf : List Byte} (h : rxClassify buf = .more) :
    decodeFrame buf = (.err .truncated, buf.length) := by
  have := scanFrame_more [] buf (fun j _ _ => by simpa using rxClassify_take_more h j)
  simpa [decodeFrame] using this

/-- The scan stops after `k` bytes, where the classifier first has an answer. -/
theorem decodeFrame_stop {buf : List Byte} {k : Nat} (hk : 1 ≤ k) (hk' : k ≤ buf.length)
    (h : rxClassify (buf.take (k - 1)) = .more) :
    (∀ f, rxClassify (buf.take k) = .done f → decodeFrame buf = (.ok f, k)) ∧
    (∀ e, rxClassify (buf.take k) = .err e → decodeFrame buf = (.err e, k)) := by
  have := scanFrame_stop [] buf k (by simp; omega) (by simpa using hk') (fun j _ hj => by
    have := rxClassify_take_more h j
    rw [List.take_take, Nat.min_eq_left (by omega)] at this
    simpa using this)
  simpa [decodeFrame] using this

/-- Every buffer is inside a frame, or has a first prefix with an answer. -/
theorem first_answer (buf : List Byte) : rxClassify buf = .more ∨
    ∃ k, 1 ≤ k ∧ k ≤ buf.length ∧ rxClassify (buf.take (k - 1)) = .more ∧
      rxClassify (buf.take k) ≠ .more := by
  induction buf using List.reverseRecOn with
  | nil => exact .inl rfl
  | append_singleton xs x ih =>
    rcases ih with ih | ⟨k, h1, h2, h3, h4⟩
    · by_cases h : rxClassify (xs ++ [x]) = .more
      · exact .inl h
      · exact .inr ⟨xs.length + 1, by omega, by simp, by simpa using ih, by rwa [List.take_of_length_le (by simp)]⟩
    · refine .inr ⟨k, h1, by simp; omega, ?_, ?_⟩
      · rwa [List.take_append_of_le_length (by omega)]
      · rwa [List.take_append_of_le_length h2]

/-- What DECODE can answer, in one place. -/
theorem decodeFrame_cases (buf : List Byte) :
    (rxClassify buf = .more ∧ decodeFrame buf = (.err .truncated, buf.length)) ∨
    ∃ k, 1 ≤ k ∧ k ≤ buf.length ∧ rxClassify (buf.take (k - 1)) = .more ∧
      ((∃ f, rxClassify (buf.take k) = .done f ∧ decodeFrame buf = (.ok f, k)) ∨
       (∃ e, rxClassify (buf.take k) = .err e ∧ decodeFrame buf = (.err e, k))) := by
  rcases first_answer buf with h | ⟨k, h1, h2, h3, h4⟩
  · exact .inl ⟨h, decodeFrame_more h⟩
  · refine .inr ⟨k, h1, h2, h3, ?_⟩
    obtain ⟨hd, he⟩ := decodeFrame_stop h1 h2 h3
    cases h : rxClassify (buf.take k) with
    | more => exact absurd h h4
    | done f => exact .inl ⟨f, rfl, hd f h⟩
    | err e => exact .inr ⟨e, rfl, he e h⟩

theorem byteAt_append_right {xs ys : List Byte} {i : Nat} (h : xs.length ≤ i) :
    byteAt (xs ++ ys) i = byteAt ys (i - xs.length) := by
  simp [byteAt, List.getElem?_append_right h]

/-- The slice that is the middle of three parts. -/
theorem slice_mid (pre mid post : List Byte) (i j : Nat) (hi : i = pre.length)
    (hj : j + 1 = pre.length + mid.length) : slice (pre ++ mid ++ post) i j = mid := by
  subst hi
  simp only [slice]
  rw [List.append_assoc, List.drop_left, List.take_append_of_le_length (by omega),
    List.take_of_length_le (by omega)]

/-- A control or long frame's bytes with checksum byte `x` and stop byte `z`. -/
abbrev longBytes (l c a ci x z : Byte) (payload : List Byte) : List Byte :=
  [startLong, l, l, startLong, c, a, ci] ++ payload ++ [x, z]

/-- The answer on a complete control or long frame: checksum before stop. -/
theorem rxClassify_longBytes (l c a ci x z : Byte) (payload : List Byte)
    (hl : l.toNat = 3 + payload.length) :
    rxClassify (longBytes l c a ci x z payload) =
      if x ≠ sum8 (c :: a :: ci :: payload) then .err .badChecksum
      else if z ≠ stopByte then .err .badStop
      else .done (.control c a ci payload) := by
  rw [rxClassify_long (by simp [longBytes]) rfl]
  have hb : ∀ i, i < 7 → byteAt (longBytes l c a ci x z payload) i =
      byteAt [startLong, l, l, startLong, c, a, ci] i := by
    intro i hi
    rw [longBytes, List.append_assoc, byteAt_append_left (by simpa using hi)]
  have hx : byteAt (longBytes l c a ci x z payload) (l.toNat + 4) = x := by
    rw [longBytes, byteAt_append_right (by simp; omega)]
    simp [hl, byteAt, show 3 + payload.length + 4 - (payload.length + 7) = 0 by omega]
  have hz : byteAt (longBytes l c a ci x z payload) (l.toNat + 5) = z := by
    rw [longBytes, byteAt_append_right (by simp; omega)]
    simp [hl, byteAt, show 3 + payload.length + 5 - (payload.length + 7) = 1 by omega]
  have hp : slice (longBytes l c a ci x z payload) 7 (l.toNat + 3) = payload := by
    apply slice_mid <;> simp; omega
  have hs : slice (longBytes l c a ci x z payload) 4 (l.toNat + 3) = c :: a :: ci :: payload := by
    simpa [longBytes] using slice_mid [startLong, l, l, startLong] (c :: a :: ci :: payload) [x, z] 4
      (l.toNat + 3) rfl (by simp; omega)
  have hlen : (longBytes l c a ci x z payload).length = l.toNat + 6 := by simp [longBytes]; omega
  have h1 : byteAt (longBytes l c a ci x z payload) 1 = l := hb 1 (by omega)
  have h2 : byteAt (longBytes l c a ci x z payload) 2 = l := hb 2 (by omega)
  have h3 : byteAt (longBytes l c a ci x z payload) 3 = startLong := hb 3 (by omega)
  have h4 : byteAt (longBytes l c a ci x z payload) 4 = c := hb 4 (by omega)
  have h5 : byteAt (longBytes l c a ci x z payload) 5 = a := hb 5 (by omega)
  have h6 : byteAt (longBytes l c a ci x z payload) 6 = ci := hb 6 (by omega)
  simp only [classifyLong, hx, hz, hp, hs, hlen, h1, h2, h3, h4, h5, h6]
  rw [if_neg (by omega), if_neg (by simp), if_neg (by omega), if_neg (by omega), if_neg (by simp),
    if_neg (by omega)]

/-- Every proper prefix of such a frame is MORE. -/
theorem rxClassify_longBytes_take (l c a ci x z : Byte) (payload : List Byte)
    (hl : l.toNat = 3 + payload.length) (k : Nat) (hk : k < l.toNat + 6) :
    rxClassify ((longBytes l c a ci x z payload).take k) = .more := by
  by_cases h0 : k = 0
  · simp [h0]
  rw [rxClassify_long (by simp [longBytes]; omega) (by rw [byteAt_take (by omega)]; rfl)]
  by_cases h3 : k < 3
  · simp only [classifyLong]; rw [if_pos]; simp; omega
  have e1 : byteAt ((longBytes l c a ci x z payload).take k) 1 = l := by
    rw [byteAt_take (by omega)]; rfl
  have e2 : byteAt ((longBytes l c a ci x z payload).take k) 2 = l := by
    rw [byteAt_take (by omega)]; rfl
  refine classifyLong_more (fun _ => ⟨by rw [e1, e2], by rw [e1]; omega⟩) (fun h => ?_) ?_
  · rw [byteAt_take (by simp at h; omega)]; rfl
  · rw [e1]; simp; omega

/-- A frame that fits is answered on its last byte, not before. -/
theorem rxClassify_encodeFrame {f : Frame} (h : frameFits f = true) :
    rxClassify (encodeFrame f) = .done f ∧
    rxClassify ((encodeFrame f).take ((encodeFrame f).length - 1)) = .more := by
  cases f with
  | ack => exact ⟨by decide, by decide⟩
  | short c a =>
    constructor
    · rw [rxClassify_short (by simp [encodeFrame]) rfl]
      simp [encodeFrame, classifyShort, byteAt, checksum]
    · rw [rxClassify_short (by simp [encodeFrame]) rfl]
      exact classifyShort_more (by simp [encodeFrame])
  | control c a ci payload =>
    have hle : payload.length ≤ maxPayload := of_decide_eq_true h
    have hl : (BitVec.ofNat 8 (3 + payload.length)).toNat = 3 + payload.length := by
      simp only [maxPayload] at hle; simp; omega
    have he : encodeFrame (.control c a ci payload) =
        longBytes (BitVec.ofNat 8 (3 + payload.length)) c a ci (sum8 (c :: a :: ci :: payload))
          stopByte payload := by
      simp [encodeFrame, hle, longBytes, checksum]
    rw [he]
    constructor
    · rw [rxClassify_longBytes _ _ _ _ _ _ _ hl]; simp
    · apply rxClassify_longBytes_take _ _ _ _ _ _ _ hl
      rw [hl]; simp [longBytes]; omega

end Sys2Proof.Machine
end

