-- ==== Sys2Proof/Laws/State.lean ====
section
/-!
SUPPORT. What each update of the state leaves in each field: one lemma per update and field, so that no
later proof unfolds a record update.
-/
namespace Sys2Proof.Machine

@[simp] theorem State.setPrimary_primary (s : State) (a : Byte) :
    (s.setPrimary a).primary = a := rfl
@[simp] theorem State.setPrimary_selected (s : State) (a : Byte) :
    (s.setPrimary a).selected = s.selected := rfl
@[simp] theorem State.setPrimary_secid (s : State) (a : Byte) :
    (s.setPrimary a).secid = s.secid := rfl
@[simp] theorem State.setPrimary_manuf (s : State) (a : Byte) :
    (s.setPrimary a).manuf = s.manuf := rfl
@[simp] theorem State.setPrimary_medium (s : State) (a : Byte) :
    (s.setPrimary a).medium = s.medium := rfl
@[simp] theorem State.setPrimary_version (s : State) (a : Byte) :
    (s.setPrimary a).version = s.version := rfl
@[simp] theorem State.setPrimary_resp (s : State) (a : Byte) : (s.setPrimary a).resp = s.resp := rfl
@[simp] theorem State.setPrimary_rxbuf (s : State) (a : Byte) :
    (s.setPrimary a).rxbuf = s.rxbuf := rfl
@[simp] theorem State.setPrimary_baud (s : State) (a : Byte) : (s.setPrimary a).baud = s.baud := rfl
@[simp] theorem State.setPrimary_debug (s : State) (a : Byte) :
    (s.setPrimary a).debug = s.debug := rfl
@[simp] theorem State.setPrimary_runstate (s : State) (a : Byte) :
    (s.setPrimary a).runstate = s.runstate := rfl
@[simp] theorem State.setPrimary_par (s : State) (a : Byte) : (s.setPrimary a).par = s.par := rfl
@[simp] theorem State.setPrimary_inq (s : State) (a : Byte) : (s.setPrimary a).inq = s.inq := rfl
@[simp] theorem State.setPrimary_outs (s : State) (a : Byte) : (s.setPrimary a).outs = s.outs := rfl
@[simp] theorem State.setPrimary_draws (s : State) (a : Byte) :
    (s.setPrimary a).draws = s.draws := rfl
@[simp] theorem State.setPrimary_ret (s : State) (a : Byte) : (s.setPrimary a).ret = s.ret := rfl

@[simp] theorem State.setSelected_primary (s : State) (b : Bool) :
    (s.setSelected b).primary = s.primary := rfl
@[simp] theorem State.setSelected_selected (s : State) (b : Bool) :
    (s.setSelected b).selected = b := rfl
@[simp] theorem State.setSelected_secid (s : State) (b : Bool) :
    (s.setSelected b).secid = s.secid := rfl
@[simp] theorem State.setSelected_manuf (s : State) (b : Bool) :
    (s.setSelected b).manuf = s.manuf := rfl
@[simp] theorem State.setSelected_medium (s : State) (b : Bool) :
    (s.setSelected b).medium = s.medium := rfl
@[simp] theorem State.setSelected_version (s : State) (b : Bool) :
    (s.setSelected b).version = s.version := rfl
@[simp] theorem State.setSelected_resp (s : State) (b : Bool) :
    (s.setSelected b).resp = s.resp := rfl
@[simp] theorem State.setSelected_rxbuf (s : State) (b : Bool) :
    (s.setSelected b).rxbuf = s.rxbuf := rfl
@[simp] theorem State.setSelected_baud (s : State) (b : Bool) :
    (s.setSelected b).baud = s.baud := rfl
@[simp] theorem State.setSelected_debug (s : State) (b : Bool) :
    (s.setSelected b).debug = s.debug := rfl
@[simp] theorem State.setSelected_runstate (s : State) (b : Bool) :
    (s.setSelected b).runstate = s.runstate := rfl
@[simp] theorem State.setSelected_par (s : State) (b : Bool) : (s.setSelected b).par = s.par := rfl
@[simp] theorem State.setSelected_inq (s : State) (b : Bool) : (s.setSelected b).inq = s.inq := rfl
@[simp] theorem State.setSelected_outs (s : State) (b : Bool) :
    (s.setSelected b).outs = s.outs := rfl
@[simp] theorem State.setSelected_draws (s : State) (b : Bool) :
    (s.setSelected b).draws = s.draws := rfl
@[simp] theorem State.setSelected_ret (s : State) (b : Bool) : (s.setSelected b).ret = s.ret := rfl

@[simp] theorem State.setRespA_primary (s : State) (a : Byte) :
    (s.setRespA a).primary = s.primary := rfl
@[simp] theorem State.setRespA_selected (s : State) (a : Byte) :
    (s.setRespA a).selected = s.selected := rfl
@[simp] theorem State.setRespA_secid (s : State) (a : Byte) : (s.setRespA a).secid = s.secid := rfl
@[simp] theorem State.setRespA_manuf (s : State) (a : Byte) : (s.setRespA a).manuf = s.manuf := rfl
@[simp] theorem State.setRespA_medium (s : State) (a : Byte) :
    (s.setRespA a).medium = s.medium := rfl
@[simp] theorem State.setRespA_version (s : State) (a : Byte) :
    (s.setRespA a).version = s.version := rfl
@[simp] theorem State.setRespA_resp (s : State) (a : Byte) :
    (s.setRespA a).resp = { s.resp with a := a } := rfl
@[simp] theorem State.setRespA_rxbuf (s : State) (a : Byte) : (s.setRespA a).rxbuf = s.rxbuf := rfl
@[simp] theorem State.setRespA_baud (s : State) (a : Byte) : (s.setRespA a).baud = s.baud := rfl
@[simp] theorem State.setRespA_debug (s : State) (a : Byte) : (s.setRespA a).debug = s.debug := rfl
@[simp] theorem State.setRespA_runstate (s : State) (a : Byte) :
    (s.setRespA a).runstate = s.runstate := rfl
@[simp] theorem State.setRespA_par (s : State) (a : Byte) : (s.setRespA a).par = s.par := rfl
@[simp] theorem State.setRespA_inq (s : State) (a : Byte) : (s.setRespA a).inq = s.inq := rfl
@[simp] theorem State.setRespA_outs (s : State) (a : Byte) : (s.setRespA a).outs = s.outs := rfl
@[simp] theorem State.setRespA_draws (s : State) (a : Byte) : (s.setRespA a).draws = s.draws := rfl
@[simp] theorem State.setRespA_ret (s : State) (a : Byte) : (s.setRespA a).ret = s.ret := rfl

@[simp] theorem State.pushRx_primary (s : State) (b : Byte) :
    (s.pushRx b).primary = s.primary := rfl
@[simp] theorem State.pushRx_selected (s : State) (b : Byte) :
    (s.pushRx b).selected = s.selected := rfl
@[simp] theorem State.pushRx_secid (s : State) (b : Byte) : (s.pushRx b).secid = s.secid := rfl
@[simp] theorem State.pushRx_manuf (s : State) (b : Byte) : (s.pushRx b).manuf = s.manuf := rfl
@[simp] theorem State.pushRx_medium (s : State) (b : Byte) : (s.pushRx b).medium = s.medium := rfl
@[simp] theorem State.pushRx_version (s : State) (b : Byte) :
    (s.pushRx b).version = s.version := rfl
@[simp] theorem State.pushRx_resp (s : State) (b : Byte) : (s.pushRx b).resp = s.resp := rfl
@[simp] theorem State.pushRx_rxbuf (s : State) (b : Byte) :
    (s.pushRx b).rxbuf = memAppend s.rxbuf b := rfl
@[simp] theorem State.pushRx_baud (s : State) (b : Byte) : (s.pushRx b).baud = s.baud := rfl
@[simp] theorem State.pushRx_debug (s : State) (b : Byte) : (s.pushRx b).debug = s.debug := rfl
@[simp] theorem State.pushRx_runstate (s : State) (b : Byte) :
    (s.pushRx b).runstate = s.runstate := rfl
@[simp] theorem State.pushRx_par (s : State) (b : Byte) : (s.pushRx b).par = s.par := rfl
@[simp] theorem State.pushRx_inq (s : State) (b : Byte) : (s.pushRx b).inq = s.inq := rfl
@[simp] theorem State.pushRx_outs (s : State) (b : Byte) : (s.pushRx b).outs = s.outs := rfl
@[simp] theorem State.pushRx_draws (s : State) (b : Byte) : (s.pushRx b).draws = s.draws := rfl
@[simp] theorem State.pushRx_ret (s : State) (b : Byte) : (s.pushRx b).ret = s.ret := rfl

@[simp] theorem State.clearRx_primary (s : State) : s.clearRx.primary = s.primary := rfl
@[simp] theorem State.clearRx_selected (s : State) : s.clearRx.selected = s.selected := rfl
@[simp] theorem State.clearRx_secid (s : State) : s.clearRx.secid = s.secid := rfl
@[simp] theorem State.clearRx_manuf (s : State) : s.clearRx.manuf = s.manuf := rfl
@[simp] theorem State.clearRx_medium (s : State) : s.clearRx.medium = s.medium := rfl
@[simp] theorem State.clearRx_version (s : State) : s.clearRx.version = s.version := rfl
@[simp] theorem State.clearRx_resp (s : State) : s.clearRx.resp = s.resp := rfl
@[simp] theorem State.clearRx_rxbuf (s : State) : s.clearRx.rxbuf = [] := rfl
@[simp] theorem State.clearRx_baud (s : State) : s.clearRx.baud = s.baud := rfl
@[simp] theorem State.clearRx_debug (s : State) : s.clearRx.debug = s.debug := rfl
@[simp] theorem State.clearRx_runstate (s : State) : s.clearRx.runstate = s.runstate := rfl
@[simp] theorem State.clearRx_par (s : State) : s.clearRx.par = s.par := rfl
@[simp] theorem State.clearRx_inq (s : State) : s.clearRx.inq = s.inq := rfl
@[simp] theorem State.clearRx_outs (s : State) : s.clearRx.outs = s.outs := rfl
@[simp] theorem State.clearRx_draws (s : State) : s.clearRx.draws = s.draws := rfl
@[simp] theorem State.clearRx_ret (s : State) : s.clearRx.ret = s.ret := rfl

@[simp] theorem State.setRunstate_primary (s : State) (r : RunState) :
    (s.setRunstate r).primary = s.primary := rfl
@[simp] theorem State.setRunstate_selected (s : State) (r : RunState) :
    (s.setRunstate r).selected = s.selected := rfl
@[simp] theorem State.setRunstate_secid (s : State) (r : RunState) :
    (s.setRunstate r).secid = s.secid := rfl
@[simp] theorem State.setRunstate_manuf (s : State) (r : RunState) :
    (s.setRunstate r).manuf = s.manuf := rfl
@[simp] theorem State.setRunstate_medium (s : State) (r : RunState) :
    (s.setRunstate r).medium = s.medium := rfl
@[simp] theorem State.setRunstate_version (s : State) (r : RunState) :
    (s.setRunstate r).version = s.version := rfl
@[simp] theorem State.setRunstate_resp (s : State) (r : RunState) :
    (s.setRunstate r).resp = s.resp := rfl
@[simp] theorem State.setRunstate_rxbuf (s : State) (r : RunState) :
    (s.setRunstate r).rxbuf = s.rxbuf := rfl
@[simp] theorem State.setRunstate_baud (s : State) (r : RunState) :
    (s.setRunstate r).baud = s.baud := rfl
@[simp] theorem State.setRunstate_debug (s : State) (r : RunState) :
    (s.setRunstate r).debug = s.debug := rfl
@[simp] theorem State.setRunstate_runstate (s : State) (r : RunState) :
    (s.setRunstate r).runstate = r := rfl
@[simp] theorem State.setRunstate_par (s : State) (r : RunState) :
    (s.setRunstate r).par = s.par := rfl
@[simp] theorem State.setRunstate_inq (s : State) (r : RunState) :
    (s.setRunstate r).inq = s.inq := rfl
@[simp] theorem State.setRunstate_outs (s : State) (r : RunState) :
    (s.setRunstate r).outs = s.outs := rfl
@[simp] theorem State.setRunstate_draws (s : State) (r : RunState) :
    (s.setRunstate r).draws = s.draws := rfl
@[simp] theorem State.setRunstate_ret (s : State) (r : RunState) :
    (s.setRunstate r).ret = s.ret := rfl

@[simp] theorem State.loadRegs_primary (s : State) (r : Regs) :
    (s.loadRegs r).primary = r.primary := rfl
@[simp] theorem State.loadRegs_selected (s : State) (r : Regs) :
    (s.loadRegs r).selected = r.selected := rfl
@[simp] theorem State.loadRegs_secid (s : State) (r : Regs) : (s.loadRegs r).secid = r.secid := rfl
@[simp] theorem State.loadRegs_manuf (s : State) (r : Regs) : (s.loadRegs r).manuf = r.manuf := rfl
@[simp] theorem State.loadRegs_medium (s : State) (r : Regs) :
    (s.loadRegs r).medium = r.medium := rfl
@[simp] theorem State.loadRegs_version (s : State) (r : Regs) :
    (s.loadRegs r).version = r.version := rfl
@[simp] theorem State.loadRegs_resp (s : State) (r : Regs) : (s.loadRegs r).resp = r.resp := rfl
@[simp] theorem State.loadRegs_rxbuf (s : State) (r : Regs) : (s.loadRegs r).rxbuf = r.rxbuf := rfl
@[simp] theorem State.loadRegs_baud (s : State) (r : Regs) : (s.loadRegs r).baud = r.baud := rfl
@[simp] theorem State.loadRegs_debug (s : State) (r : Regs) : (s.loadRegs r).debug = r.debug := rfl
@[simp] theorem State.loadRegs_runstate (s : State) (r : Regs) :
    (s.loadRegs r).runstate = s.runstate := rfl
@[simp] theorem State.loadRegs_par (s : State) (r : Regs) : (s.loadRegs r).par = s.par := rfl
@[simp] theorem State.loadRegs_inq (s : State) (r : Regs) : (s.loadRegs r).inq = s.inq := rfl
@[simp] theorem State.loadRegs_outs (s : State) (r : Regs) : (s.loadRegs r).outs = s.outs := rfl
@[simp] theorem State.loadRegs_draws (s : State) (r : Regs) : (s.loadRegs r).draws = s.draws := rfl
@[simp] theorem State.loadRegs_ret (s : State) (r : Regs) : (s.loadRegs r).ret = s.ret := rfl

@[simp] theorem State.emit_primary (s : State) (o : Output) : (s.emit o).primary = s.primary := rfl
@[simp] theorem State.emit_selected (s : State) (o : Output) :
    (s.emit o).selected = s.selected := rfl
@[simp] theorem State.emit_secid (s : State) (o : Output) : (s.emit o).secid = s.secid := rfl
@[simp] theorem State.emit_manuf (s : State) (o : Output) : (s.emit o).manuf = s.manuf := rfl
@[simp] theorem State.emit_medium (s : State) (o : Output) : (s.emit o).medium = s.medium := rfl
@[simp] theorem State.emit_version (s : State) (o : Output) : (s.emit o).version = s.version := rfl
@[simp] theorem State.emit_resp (s : State) (o : Output) : (s.emit o).resp = s.resp := rfl
@[simp] theorem State.emit_rxbuf (s : State) (o : Output) : (s.emit o).rxbuf = s.rxbuf := rfl
@[simp] theorem State.emit_baud (s : State) (o : Output) : (s.emit o).baud = s.baud := rfl
@[simp] theorem State.emit_debug (s : State) (o : Output) : (s.emit o).debug = s.debug := rfl
@[simp] theorem State.emit_runstate (s : State) (o : Output) :
    (s.emit o).runstate = s.runstate := rfl
@[simp] theorem State.emit_par (s : State) (o : Output) : (s.emit o).par = s.par := rfl
@[simp] theorem State.emit_inq (s : State) (o : Output) : (s.emit o).inq = s.inq := rfl
@[simp] theorem State.emit_outs (s : State) (o : Output) : (s.emit o).outs = s.outs ++ [o] := rfl
@[simp] theorem State.emit_draws (s : State) (o : Output) : (s.emit o).draws = s.draws := rfl
@[simp] theorem State.emit_ret (s : State) (o : Output) : (s.emit o).ret = s.ret := rfl

@[simp] theorem State.takeDraw_primary (s : State) : s.takeDraw.primary = s.primary := rfl
@[simp] theorem State.takeDraw_selected (s : State) : s.takeDraw.selected = s.selected := rfl
@[simp] theorem State.takeDraw_secid (s : State) : s.takeDraw.secid = s.secid := rfl
@[simp] theorem State.takeDraw_manuf (s : State) : s.takeDraw.manuf = s.manuf := rfl
@[simp] theorem State.takeDraw_medium (s : State) : s.takeDraw.medium = s.medium := rfl
@[simp] theorem State.takeDraw_version (s : State) : s.takeDraw.version = s.version := rfl
@[simp] theorem State.takeDraw_resp (s : State) : s.takeDraw.resp = s.resp := rfl
@[simp] theorem State.takeDraw_rxbuf (s : State) : s.takeDraw.rxbuf = s.rxbuf := rfl
@[simp] theorem State.takeDraw_baud (s : State) : s.takeDraw.baud = s.baud := rfl
@[simp] theorem State.takeDraw_debug (s : State) : s.takeDraw.debug = s.debug := rfl
@[simp] theorem State.takeDraw_runstate (s : State) : s.takeDraw.runstate = s.runstate := rfl
@[simp] theorem State.takeDraw_par (s : State) : s.takeDraw.par = s.par := rfl
@[simp] theorem State.takeDraw_inq (s : State) : s.takeDraw.inq = s.inq := rfl
@[simp] theorem State.takeDraw_outs (s : State) : s.takeDraw.outs = s.outs := rfl
@[simp] theorem State.takeDraw_draws (s : State) : s.takeDraw.draws = s.draws + 1 := rfl
@[simp] theorem State.takeDraw_ret (s : State) : s.takeDraw.ret = s.ret := rfl

@[simp] theorem State.setRet_primary (s : State) (v : Value) :
    (s.setRet v).primary = s.primary := rfl
@[simp] theorem State.setRet_selected (s : State) (v : Value) :
    (s.setRet v).selected = s.selected := rfl
@[simp] theorem State.setRet_secid (s : State) (v : Value) : (s.setRet v).secid = s.secid := rfl
@[simp] theorem State.setRet_manuf (s : State) (v : Value) : (s.setRet v).manuf = s.manuf := rfl
@[simp] theorem State.setRet_medium (s : State) (v : Value) : (s.setRet v).medium = s.medium := rfl
@[simp] theorem State.setRet_version (s : State) (v : Value) :
    (s.setRet v).version = s.version := rfl
@[simp] theorem State.setRet_resp (s : State) (v : Value) : (s.setRet v).resp = s.resp := rfl
@[simp] theorem State.setRet_rxbuf (s : State) (v : Value) : (s.setRet v).rxbuf = s.rxbuf := rfl
@[simp] theorem State.setRet_baud (s : State) (v : Value) : (s.setRet v).baud = s.baud := rfl
@[simp] theorem State.setRet_debug (s : State) (v : Value) : (s.setRet v).debug = s.debug := rfl
@[simp] theorem State.setRet_runstate (s : State) (v : Value) :
    (s.setRet v).runstate = s.runstate := rfl
@[simp] theorem State.setRet_par (s : State) (v : Value) : (s.setRet v).par = s.par := rfl
@[simp] theorem State.setRet_inq (s : State) (v : Value) : (s.setRet v).inq = s.inq := rfl
@[simp] theorem State.setRet_outs (s : State) (v : Value) : (s.setRet v).outs = s.outs := rfl
@[simp] theorem State.setRet_draws (s : State) (v : Value) : (s.setRet v).draws = s.draws := rfl
@[simp] theorem State.setRet_ret (s : State) (v : Value) : (s.setRet v).ret = some v := rfl

@[simp] theorem State.takeEvent_primary (s : State) : s.takeEvent.primary = s.primary := rfl
@[simp] theorem State.takeEvent_selected (s : State) : s.takeEvent.selected = s.selected := rfl
@[simp] theorem State.takeEvent_secid (s : State) : s.takeEvent.secid = s.secid := rfl
@[simp] theorem State.takeEvent_manuf (s : State) : s.takeEvent.manuf = s.manuf := rfl
@[simp] theorem State.takeEvent_medium (s : State) : s.takeEvent.medium = s.medium := rfl
@[simp] theorem State.takeEvent_version (s : State) : s.takeEvent.version = s.version := rfl
@[simp] theorem State.takeEvent_resp (s : State) : s.takeEvent.resp = s.resp := rfl
@[simp] theorem State.takeEvent_rxbuf (s : State) : s.takeEvent.rxbuf = s.rxbuf := rfl
@[simp] theorem State.takeEvent_baud (s : State) : s.takeEvent.baud = s.baud := rfl
@[simp] theorem State.takeEvent_debug (s : State) : s.takeEvent.debug = s.debug := rfl
@[simp] theorem State.takeEvent_runstate (s : State) : s.takeEvent.runstate = s.runstate := rfl
@[simp] theorem State.takeEvent_par (s : State) : s.takeEvent.par = s.par := rfl
@[simp] theorem State.takeEvent_inq (s : State) : s.takeEvent.inq = s.inq.tail := rfl
@[simp] theorem State.takeEvent_outs (s : State) : s.takeEvent.outs = s.outs := rfl
@[simp] theorem State.takeEvent_draws (s : State) : s.takeEvent.draws = s.draws := rfl
@[simp] theorem State.takeEvent_ret (s : State) : s.takeEvent.ret = s.ret := rfl

@[simp] theorem State.transmit_primary (s : State) (d : Delay) (bs : List Byte) :
    (s.transmit d bs).primary = s.primary := rfl
@[simp] theorem State.transmit_selected (s : State) (d : Delay) (bs : List Byte) :
    (s.transmit d bs).selected = s.selected := rfl
@[simp] theorem State.transmit_secid (s : State) (d : Delay) (bs : List Byte) :
    (s.transmit d bs).secid = s.secid := rfl
@[simp] theorem State.transmit_manuf (s : State) (d : Delay) (bs : List Byte) :
    (s.transmit d bs).manuf = s.manuf := rfl
@[simp] theorem State.transmit_medium (s : State) (d : Delay) (bs : List Byte) :
    (s.transmit d bs).medium = s.medium := rfl
@[simp] theorem State.transmit_version (s : State) (d : Delay) (bs : List Byte) :
    (s.transmit d bs).version = s.version := rfl
@[simp] theorem State.transmit_resp (s : State) (d : Delay) (bs : List Byte) :
    (s.transmit d bs).resp = s.resp := rfl
@[simp] theorem State.transmit_rxbuf (s : State) (d : Delay) (bs : List Byte) :
    (s.transmit d bs).rxbuf = s.rxbuf := rfl
@[simp] theorem State.transmit_baud (s : State) (d : Delay) (bs : List Byte) :
    (s.transmit d bs).baud = s.baud := rfl
@[simp] theorem State.transmit_debug (s : State) (d : Delay) (bs : List Byte) :
    (s.transmit d bs).debug = s.debug := rfl
@[simp] theorem State.transmit_runstate (s : State) (d : Delay) (bs : List Byte) :
    (s.transmit d bs).runstate = s.runstate := rfl
@[simp] theorem State.transmit_par (s : State) (d : Delay) (bs : List Byte) :
    (s.transmit d bs).par = s.par := rfl
@[simp] theorem State.transmit_inq (s : State) (d : Delay) (bs : List Byte) :
    (s.transmit d bs).inq = s.inq := rfl
@[simp] theorem State.transmit_outs (s : State) (d : Delay) (bs : List Byte) :
    (s.transmit d bs).outs = s.outs ++ [.tx d bs] := rfl
@[simp] theorem State.transmit_draws (s : State) (d : Delay) (bs : List Byte) :
    (s.transmit d bs).draws = s.draws := rfl
@[simp] theorem State.transmit_ret (s : State) (d : Delay) (bs : List Byte) :
    (s.transmit d bs).ret = s.ret := rfl

@[simp] theorem State.raiseFrame_primary (s : State) (e : FrameError) :
    (s.raiseFrame e).primary = s.primary := rfl
@[simp] theorem State.raiseFrame_selected (s : State) (e : FrameError) :
    (s.raiseFrame e).selected = s.selected := rfl
@[simp] theorem State.raiseFrame_secid (s : State) (e : FrameError) :
    (s.raiseFrame e).secid = s.secid := rfl
@[simp] theorem State.raiseFrame_manuf (s : State) (e : FrameError) :
    (s.raiseFrame e).manuf = s.manuf := rfl
@[simp] theorem State.raiseFrame_medium (s : State) (e : FrameError) :
    (s.raiseFrame e).medium = s.medium := rfl
@[simp] theorem State.raiseFrame_version (s : State) (e : FrameError) :
    (s.raiseFrame e).version = s.version := rfl
@[simp] theorem State.raiseFrame_resp (s : State) (e : FrameError) :
    (s.raiseFrame e).resp = s.resp := rfl
@[simp] theorem State.raiseFrame_rxbuf (s : State) (e : FrameError) :
    (s.raiseFrame e).rxbuf = [] := rfl
@[simp] theorem State.raiseFrame_baud (s : State) (e : FrameError) :
    (s.raiseFrame e).baud = s.baud := rfl
@[simp] theorem State.raiseFrame_debug (s : State) (e : FrameError) :
    (s.raiseFrame e).debug = s.debug := rfl
@[simp] theorem State.raiseFrame_runstate (s : State) (e : FrameError) :
    (s.raiseFrame e).runstate = s.runstate := rfl
@[simp] theorem State.raiseFrame_par (s : State) (e : FrameError) :
    (s.raiseFrame e).par = s.par := rfl
@[simp] theorem State.raiseFrame_inq (s : State) (e : FrameError) :
    (s.raiseFrame e).inq = s.inq := rfl
@[simp] theorem State.raiseFrame_outs (s : State) (e : FrameError) :
    (s.raiseFrame e).outs = s.outs ++ [.verdict (.err (.frame e))] := rfl
@[simp] theorem State.raiseFrame_draws (s : State) (e : FrameError) :
    (s.raiseFrame e).draws = s.draws := rfl
@[simp] theorem State.raiseFrame_ret (s : State) (e : FrameError) :
    (s.raiseFrame e).ret = s.ret := rfl

@[simp] theorem State.raiseAddressing_primary (s : State) :
    s.raiseAddressing.primary = s.primary := rfl
@[simp] theorem State.raiseAddressing_selected (s : State) :
    s.raiseAddressing.selected = s.selected := rfl
@[simp] theorem State.raiseAddressing_secid (s : State) : s.raiseAddressing.secid = s.secid := rfl
@[simp] theorem State.raiseAddressing_manuf (s : State) : s.raiseAddressing.manuf = s.manuf := rfl
@[simp] theorem State.raiseAddressing_medium (s : State) :
    s.raiseAddressing.medium = s.medium := rfl
@[simp] theorem State.raiseAddressing_version (s : State) :
    s.raiseAddressing.version = s.version := rfl
@[simp] theorem State.raiseAddressing_resp (s : State) : s.raiseAddressing.resp = s.resp := rfl
@[simp] theorem State.raiseAddressing_rxbuf (s : State) : s.raiseAddressing.rxbuf = s.rxbuf := rfl
@[simp] theorem State.raiseAddressing_baud (s : State) : s.raiseAddressing.baud = s.baud := rfl
@[simp] theorem State.raiseAddressing_debug (s : State) : s.raiseAddressing.debug = s.debug := rfl
@[simp] theorem State.raiseAddressing_runstate (s : State) :
    s.raiseAddressing.runstate = s.runstate := rfl
@[simp] theorem State.raiseAddressing_par (s : State) : s.raiseAddressing.par = s.par := rfl
@[simp] theorem State.raiseAddressing_inq (s : State) : s.raiseAddressing.inq = s.inq := rfl
@[simp] theorem State.raiseAddressing_outs (s : State) :
    s.raiseAddressing.outs = s.outs ++ [.verdict (.err .addressing)] := rfl
@[simp] theorem State.raiseAddressing_draws (s : State) : s.raiseAddressing.draws = s.draws := rfl
@[simp] theorem State.raiseAddressing_ret (s : State) : s.raiseAddressing.ret = s.ret := rfl

@[simp] theorem State.raiseTransportReceive_primary (s : State) :
    s.raiseTransportReceive.primary = s.primary := rfl
@[simp] theorem State.raiseTransportReceive_selected (s : State) :
    s.raiseTransportReceive.selected = s.selected := rfl
@[simp] theorem State.raiseTransportReceive_secid (s : State) :
    s.raiseTransportReceive.secid = s.secid := rfl
@[simp] theorem State.raiseTransportReceive_manuf (s : State) :
    s.raiseTransportReceive.manuf = s.manuf := rfl
@[simp] theorem State.raiseTransportReceive_medium (s : State) :
    s.raiseTransportReceive.medium = s.medium := rfl
@[simp] theorem State.raiseTransportReceive_version (s : State) :
    s.raiseTransportReceive.version = s.version := rfl
@[simp] theorem State.raiseTransportReceive_resp (s : State) :
    s.raiseTransportReceive.resp = s.resp := rfl
@[simp] theorem State.raiseTransportReceive_rxbuf (s : State) :
    s.raiseTransportReceive.rxbuf = [] := rfl
@[simp] theorem State.raiseTransportReceive_baud (s : State) :
    s.raiseTransportReceive.baud = s.baud := rfl
@[simp] theorem State.raiseTransportReceive_debug (s : State) :
    s.raiseTransportReceive.debug = s.debug := rfl
@[simp] theorem State.raiseTransportReceive_runstate (s : State) :
    s.raiseTransportReceive.runstate = s.runstate := rfl
@[simp] theorem State.raiseTransportReceive_par (s : State) :
    s.raiseTransportReceive.par = s.par := rfl
@[simp] theorem State.raiseTransportReceive_inq (s : State) :
    s.raiseTransportReceive.inq = s.inq := rfl
@[simp] theorem State.raiseTransportReceive_outs (s : State) :
    s.raiseTransportReceive.outs = s.outs ++ [.verdict (.err .transportReceive)] := rfl
@[simp] theorem State.raiseTransportReceive_draws (s : State) :
    s.raiseTransportReceive.draws = s.draws := rfl
@[simp] theorem State.raiseTransportReceive_ret (s : State) :
    s.raiseTransportReceive.ret = s.ret := rfl

end Sys2Proof.Machine
end

