-- ==== Sys2Proof/Laws/Commands.lean ====
section
/-!
SUPPORT. The shared operations of the state machine, said once: what each can answer, so that a later
proof cites these instead of unfolding a meaning.
-/
namespace Sys2Proof.Machine

theorem whenRun_run {s : State} (h : s.runstate = .run) (f : State → State) : s.whenRun f = f s := by
  simp [State.whenRun, h]

theorem whenRun_halt {s : State} (h : s.runstate = .halt) (f : State → State) :
    s.whenRun f = s := by
  simp [State.whenRun, h]

/-- An operation under `whenRun` happens, or nothing does. -/
theorem whenRun_cases (s : State) (f : State → State) :
    (s.runstate = .run ∧ s.whenRun f = f s) ∨ (s.runstate = .halt ∧ s.whenRun f = s) := by
  cases h : s.runstate
  · exact .inl ⟨rfl, whenRun_run h f⟩
  · exact .inr ⟨rfl, whenRun_halt h f⟩

theorem onFrame_heard {s : State} {a : Byte} (h : s.runstate = .run)
    (ha : heard s.primary a = true) (f : State → State) : s.onFrame a f = f s := by
  simp [State.onFrame, State.whenRun, h, ha]

theorem onFrame_unheard {s : State} {a : Byte} (ha : heard s.primary a = false)
    (f : State → State) : s.onFrame a f = s := by
  simp [State.onFrame, State.whenRun, ha, State.ignore]

/-- A frame row's command happens, or nothing does. -/
theorem onFrame_cases (s : State) (a : Byte) (f : State → State) :
    (s.runstate = .run ∧ heard s.primary a = true ∧ s.onFrame a f = f s) ∨ s.onFrame a f = s := by
  cases ha : heard s.primary a
  · exact .inr (onFrame_unheard ha f)
  · rcases whenRun_cases s fun s => if heard s.primary a then f s else s.ignore with ⟨h, e⟩ | ⟨_, e⟩
    · exact .inl ⟨h, rfl, by simp [State.onFrame, e, ha]⟩
    · exact .inr e

/-- SND_NKE writes SELECTED, and an ACK with its draw if the address is acknowledged. -/
theorem sndNke_eq (s : State) (a : Byte) : sndNke s a =
    if nkeAcked s.par s.primary a then
      { s with
        selected := selectedAfterNke a s.selected
        draws := s.draws + 1
        outs := s.outs ++ [.tx (.draw s.draws) [ackByte]] }
    else { s with selected := selectedAfterNke a s.selected } := rfl

/-- The response rewrites RESP.A and is one TX. -/
theorem sendResponse_eq (s : State) : sendResponse s =
    { s with
      resp := { s.resp with a := s.primary }
      outs := s.outs ++ [.tx .zero
        (encodeFrame (.control s.resp.c s.primary s.resp.ci s.resp.data))] } := rfl

theorem reqUd2_cases (s : State) (a : Byte) :
    ((s.selected = true ∨ a = s.primary) ∧ reqUd2 s a = sendResponse s) ∨
    (s.selected = false ∧ a ≠ s.primary ∧ reqUd2 s a = s) := by
  unfold reqUd2
  split_ifs with h
  · exact .inl ⟨h, rfl⟩
  · exact .inr ⟨by simpa using fun e => h (.inl e), fun e => h (.inr e), rfl⟩

theorem setAddr_cases (s : State) (new : Byte) :
    (s.selected = true ∧ setAddr s new =
      { s with
        primary := new
        resp := { s.resp with a := new }
        outs := s.outs ++ [.tx .zero [ackByte]] }) ∨
    (s.selected = false ∧ setAddr s new = s) := by
  by_cases h : s.selected = true
  · exact .inl ⟨h, by rw [setAddr, if_pos h]; rfl⟩
  · exact .inr ⟨by simpa using h, by simp [setAddr, h, State.ignore]⟩

theorem select_cases (s : State) (data : List Byte) :
    (data.length = 8 ∧ maskMatches (selMask data) s.secid = true ∧ select s data =
      { s with selected := true, outs := s.outs ++ [.tx .zero [ackByte]] }) ∨
    (data.length = 8 ∧ maskMatches (selMask data) s.secid = false ∧
      select s data = { s with selected := false }) ∨
    (data.length ≠ 8 ∧ select s data =
      { s with selected := false, outs := s.outs ++ [.verdict (.err .addressing)] }) := by
  by_cases h : data.length = 8
  · cases hm : maskMatches (selMask data) s.secid
    · exact .inr (.inl ⟨h, rfl, by
        simp [select, matchesSecondary, selDataLen, h, hm, selectedAfterSelect,
          State.setSelected]⟩)
    · exact .inl ⟨h, rfl, by
        simp [select, matchesSecondary, selDataLen, h, hm, selectedAfterSelect,
          State.setSelected, State.transmit, State.emit, encodeFrame]⟩
  · exact .inr (.inr ⟨h, by
      simp [select, matchesSecondary, selDataLen, h, selectedAfterSelect,
        State.setSelected, State.raiseAddressing, State.emit]⟩)

/-- Everything `Execute(f)` can do, with what each case says of the frame. -/
theorem executeFrame_cases (s : State) (f : Frame) :
    executeFrame s f = s ∨
    (∃ c a, (f = .short c a ∨ ∃ ci d, f = .control c a ci d) ∧ heard s.primary a = true ∧
      codeOf s.par c = s.par.cSndNke ∧ executeFrame s f = sndNke s a) ∨
    (∃ c a, (f = .short c a ∨ ∃ ci d, f = .control c a ci d) ∧ heard s.primary a = true ∧
      codeOf s.par c = s.par.cReqUd2 ∧ executeFrame s f = reqUd2 s a) ∨
    (∃ c a d, f = .control c a s.par.ciDataSend d ∧ heard s.primary a = true ∧
      codeOf s.par c = s.par.cSndUd ∧ isSetAddr d = true ∧
      executeFrame s f = setAddr s (newAddress d)) ∨
    (∃ c a d, f = .control c a s.par.ciSelectSlave d ∧ heard s.primary a = true ∧
      codeOf s.par c = s.par.cSndUd ∧ executeFrame s f = select s d) := by
  cases f with
  | ack => exact .inl rfl
  | short c a =>
    simp only [executeFrame]
    split_ifs with h1 h2 h3 h4
    · exact .inl rfl
    · exact .inl rfl
    · exact .inr (.inl ⟨c, a, .inl rfl, by simp_all [heard], h3, rfl⟩)
    · exact .inr (.inr (.inl ⟨c, a, .inl rfl, by simp_all [heard], h4, rfl⟩))
    · exact .inl rfl
  | control c a ci d =>
    simp only [executeFrame]
    split_ifs with h1 h2 h3 h4 h5 h6
    · exact .inl rfl
    · exact .inl rfl
    · exact .inr (.inl ⟨c, a, .inr ⟨ci, d, rfl⟩, by simp_all [heard], h3, rfl⟩)
    · exact .inr (.inr (.inl ⟨c, a, .inr ⟨ci, d, rfl⟩, by simp_all [heard], h4, rfl⟩))
    · exact .inr (.inr (.inr (.inl
        ⟨c, a, d, by rw [h5.2.1], by simp_all [heard], h5.1, h5.2.2, rfl⟩)))
    · exact .inr (.inr (.inr (.inr ⟨c, a, d, by rw [h6.2], by simp_all [heard], h6.1, rfl⟩)))
    · exact .inl rfl

/-- A command touches neither the receiver, the queue, RUNSTATE nor a read-only register, and keeps
RESP.A equal to PRIMARY. -/
theorem executeFrame_frame (s : State) (f : Frame) :
    (executeFrame s f).rxbuf = s.rxbuf ∧ (executeFrame s f).inq = s.inq ∧
    (executeFrame s f).runstate = s.runstate ∧ (executeFrame s f).par = s.par ∧
    (executeFrame s f).ret = s.ret ∧ (executeFrame s f).secid = s.secid ∧
    (executeFrame s f).manuf = s.manuf ∧ (executeFrame s f).medium = s.medium ∧
    (executeFrame s f).version = s.version ∧ (executeFrame s f).baud = s.baud ∧
    (executeFrame s f).debug = s.debug ∧ (executeFrame s f).resp.c = s.resp.c ∧
    (executeFrame s f).resp.ci = s.resp.ci ∧ (executeFrame s f).resp.data = s.resp.data ∧
    (s.resp.a = s.primary → (executeFrame s f).resp.a = (executeFrame s f).primary) := by
  rcases executeFrame_cases s f with e | ⟨_, a, _, _, _, e⟩ | ⟨_, a, _, _, _, e⟩ |
    ⟨_, a, d, _, _, _, _, e⟩ | ⟨_, a, d, _, _, _, e⟩ <;> rw [e]
  · simp
  · rw [sndNke_eq]; split_ifs <;> simp
  · rcases reqUd2_cases s a with ⟨_, e⟩ | ⟨_, _, e⟩ <;> rw [e]
    · simp [sendResponse_eq]
    · simp
  · rcases setAddr_cases s (newAddress d) with ⟨_, e⟩ | ⟨_, e⟩ <;> rw [e] <;> simp
  · rcases select_cases s d with ⟨_, _, e⟩ | ⟨_, _, e⟩ | ⟨_, e⟩ <;> rw [e] <;> simp

end Sys2Proof.Machine
end

