-- ==== Sys2Proof/Laws/Events.lean ====
section
/-!
SUPPORT. The input events, said once: what receiving a byte, a gap and a RESET can answer.
-/
namespace Sys2Proof.Machine

/-- A received byte is kept, rejected with its buffer, or completes a frame that is executed. -/
theorem receiveByte_cases (s : State) (b : Byte) :
    (rxClassify (s.rxbuf ++ [b]) = .more ∧ receiveByte s b = { s with rxbuf := s.rxbuf ++ [b] }) ∨
    (∃ e, rxClassify (s.rxbuf ++ [b]) = .err e ∧ receiveByte s b =
      { s with rxbuf := [], outs := s.outs ++ [.verdict (.err (.frame e))] }) ∨
    (∃ f, rxClassify (s.rxbuf ++ [b]) = .done f ∧ receiveByte s b =
      executeFrame { s with rxbuf := [], outs := s.outs ++ [.verdict (.ok f)] } f) := by
  cases h : rxClassify (s.rxbuf ++ [b]) with
  | more => exact .inl ⟨rfl, by simp only [receiveByte, State.pushRx, memAppend, h]⟩
  | err e =>
    exact .inr (.inl ⟨e, rfl, by simp only [receiveByte, State.pushRx, memAppend, h]; rfl⟩)
  | done f =>
    exact .inr (.inr ⟨f, rfl, by simp only [receiveByte, State.pushRx, memAppend, h]; rfl⟩)

theorem receiveGap_cases (s : State) :
    (s.rxbuf = [] ∧ receiveGap s = s) ∨ (s.rxbuf ≠ [] ∧ receiveGap s =
      { s with rxbuf := [], outs := s.outs ++ [.verdict (.err (.frame .truncated))] }) := by
  by_cases h : s.rxbuf = []
  · exact .inl ⟨h, by rw [receiveGap, if_pos h]⟩
  · exact .inr ⟨h, by rw [receiveGap, if_neg h]; rfl⟩

/-- A RESET loads the configuration's registers and listens, or fails and halts. -/
theorem resetWith_cases (s : State) (cfg : Cfg) :
    (∃ r, regsOfCfg cfg = some r ∧ resetWith s cfg =
      { s with toRegs := r, outs := s.outs ++ [.setbaud r.baud], runstate := .run }) ∨
    (regsOfCfg cfg = none ∧ resetWith s cfg =
      { s with
        toRegs := Config.unspecifiedRegs s.draws
        draws := s.draws + 1
        runstate := .halt }) := by
  cases h : regsOfCfg cfg with
  | none => exact .inr ⟨rfl, by simp only [resetWith, h]; rfl⟩
  | some r => exact .inl ⟨r, rfl, by simp only [resetWith, h]; rfl⟩

/-- The registers a successful RESET loads. -/
theorem regsOfCfg_some {cfg : Cfg} {r : Regs} (h : regsOfCfg cfg = some r) :
    cfg.ok = true ∧ quadOf cfg.secid = some r.secid ∧ ∃ resp, respOfCfg cfg.resp = some resp ∧
      r = {
        primary := cfg.primary
        selected := false
        secid := r.secid
        manuf := cfg.manuf
        medium := cfg.medium
        version := cfg.version
        resp := { resp with a := cfg.primary }
        rxbuf := []
        baud := cfg.baud
        debug := cfg.debug } := by
  unfold regsOfCfg at h
  split at h
  · next secid resp h1 h2 h3 =>
    cases h
    exact ⟨h1, h2, resp, h3, rfl⟩
  · cases h

end Sys2Proof.Machine
end

