-- ==== Sys2Proof/Laws/Memory.lean ====
section
/-!
SUPPORT. The byte stores (20_memory.md R52): a read after an append, and that every operation keeps a
store within its capacity.
-/
namespace Sys2Proof.Machine

@[simp] theorem memRead_memAppend_last (m : Memory) (b : Byte) :
    memRead (memAppend m b) m.length = some b := by
  simp [memRead, memAppend]

theorem memRead_memAppend_old (m : Memory) (b : Byte) {i : Nat} (h : i < m.length) :
    memRead (memAppend m b) i = memRead m i := by
  simp [memRead, memAppend, List.getElem?_append_left h]

@[simp] theorem memRead_memClear (m : Memory) (i : Nat) : memRead (memClear m) i = none := rfl

theorem memRead_past_end (m : Memory) {i : Nat} (h : m.length ≤ i) : memRead m i = none := by
  simp [memRead, h]

/-- Equal bytes at every index are equal stores: the form is canonical. -/
theorem memory_ext {m n : Memory} (h : ∀ i, memRead m i = memRead n i) : m = n :=
  List.ext_getElem? h

theorem memAppend_wf {capacity : Nat} {m : Memory} (b : Byte) (h : Memory.wf capacity m = true) :
    Memory.wf (capacity + 1) (memAppend m b) = true := by
  simp [Memory.wf, memAppend] at *; exact h

theorem memClear_wf (capacity : Nat) (m : Memory) : Memory.wf capacity (memClear m) = true := by
  simp [Memory.wf, memClear]

theorem memory_take_wf (capacity : Nat) (m : Memory) :
    Memory.wf capacity (m.take capacity) = true := by
  simp [Memory.wf]

theorem reset_memory_wf :
    Memory.wf 260 State.reset.rxbuf = true ∧ Memory.wf maxPayload State.reset.resp.data = true := by
  decide

end Sys2Proof.Machine
end

