-- ==== Sys2Proof/Laws/PerInstr.lean ====
section
/-!
SUPPORT. Statements made per instruction: EncodeNonempty, one lemma per constructor of `Instr`.
-/
namespace Sys2Proof.Laws.EncodeNonempty

open Machine

/-- The encoding of a well-formed instruction has at least one byte (00_scope.md R10). -/
def Statement (i : Instr) : Prop :=
  ∀ (p : Params) (primary : Byte) (bytes : List Byte), i.wf p primary = true →
    encode p i = some bytes → bytes ≠ []

theorem encodeFrame_ne_nil {f : Frame} (h : frameFits f = true) : encodeFrame f ≠ [] := by
  cases f with
  | ack => simp [encodeFrame]
  | short c a => simp [encodeFrame]
  | control c a ci payload => rw [encodeFrame, if_pos (of_decide_eq_true h)]; simp

/-- A row that stands for a frame that fits. -/
theorem of_frame {i : Instr} (f : Params → Frame) (hf : ∀ p, i.frame? p = some (f p))
    (h : ∀ p primary, i.wf p primary = true → frameFits (f p) = true) : Statement i := by
  intro p primary bytes hw he
  simp only [encode, hf, Option.some.injEq] at he
  exact he ▸ encodeFrame_ne_nil (h p primary hw)

/-- A row that no received bytes spell. -/
theorem of_none {i : Instr} (hf : ∀ p, i.frame? p = none) (hr : i.rejected? = none) :
    Statement i := by
  intro p primary bytes _ he
  simp [encode, hf, hr] at he

/-- A rejection row other than ERR_TRUNCATED. -/
theorem of_rejected {i : Instr} {b : Byte} {bs : List Byte} (hf : ∀ p, i.frame? p = none)
    (hr : i.rejected? = some (b :: bs)) : Statement i := by
  intro p primary bytes _ he
  simp only [encode, hf, hr, Option.some.injEq] at he
  exact he ▸ List.cons_ne_nil b bs

theorem errBadstartLead (x : Byte) : Statement (.errBadstartLead x) :=
  of_rejected (fun _ => rfl) rfl

theorem errShortBadchecksum (c : Byte) (a : Byte) (x : Byte) (z : Byte) :
    Statement (.errShortBadchecksum c a x z) :=
  of_rejected (fun _ => rfl) rfl

theorem errShortBadstop (c : Byte) (a : Byte) (x : Byte) : Statement (.errShortBadstop c a x) :=
  of_rejected (fun _ => rfl) rfl

theorem errLongLengthmismatch (l1 : Byte) (l2 : Byte) :
    Statement (.errLongLengthmismatch l1 l2) :=
  of_rejected (fun _ => rfl) rfl

theorem errLongShortlength (l : Byte) : Statement (.errLongShortlength l) :=
  of_rejected (fun _ => rfl) rfl

theorem errLongBadstart2 (l : Byte) (x : Byte) : Statement (.errLongBadstart2 l x) :=
  of_rejected (fun _ => rfl) rfl

theorem errLongBadchecksum (c : Byte) (a : Byte) (ci : Byte) (data : List Byte) (x : Byte) (z : Byte) :
    Statement (.errLongBadchecksum c a ci data x z) :=
  of_rejected (fun _ => rfl) rfl

theorem errLongBadstop (c : Byte) (a : Byte) (ci : Byte) (data : List Byte) (x : Byte) :
    Statement (.errLongBadstop c a ci data x) :=
  of_rejected (fun _ => rfl) rfl

theorem errTruncated (part : List Byte) : Statement (.errTruncated part) := by
  intro p primary bytes hw he
  simp only [encode, Instr.frame?, Instr.rejected?, Option.some.injEq] at he
  rw [← he]
  intro h
  simp [Instr.wf, h] at hw

theorem ack : Statement .ack :=
  of_frame (fun _ => .ack) (fun _ => rfl) fun _ _ _ => rfl

theorem ignoreBcastNoreplyShort (c : Byte) : Statement (.ignoreBcastNoreplyShort c) :=
  of_frame (fun _ => .short c addrBcastNoreply) (fun _ => rfl) fun _ _ _ => rfl

theorem ignoreBcastNoreplyLong (c : Byte) (ci : Byte) (data : List Byte) :
    Statement (.ignoreBcastNoreplyLong c ci data) :=
  of_frame (fun _ => .control c addrBcastNoreply ci data) (fun _ => rfl) fun _ _ h => h

theorem ignoreNotForUs (f : Frame) : Statement (.ignoreNotForUs f) :=
  of_frame (fun _ => f) (fun _ => rfl) fun p primary h => by
    simp only [Instr.wf, Bool.and_eq_true] at h
    exact h.1

theorem sndNke (c : Byte) (a : Byte) : Statement (.sndNke c a) :=
  of_frame (fun _ => .short c a) (fun _ => rfl) fun _ _ _ => rfl

theorem sndNkeLong (c : Byte) (a : Byte) (ci : Byte) (data : List Byte) :
    Statement (.sndNkeLong c a ci data) :=
  of_frame (fun _ => .control c a ci data) (fun _ => rfl) fun p primary h => by
    simp only [Instr.wf, Bool.and_eq_true] at h
    exact h.2

theorem reqUd2 (c : Byte) (a : Byte) : Statement (.reqUd2 c a) :=
  of_frame (fun _ => .short c a) (fun _ => rfl) fun _ _ _ => rfl

theorem reqUd2Long (c : Byte) (a : Byte) (ci : Byte) (data : List Byte) :
    Statement (.reqUd2Long c a ci data) :=
  of_frame (fun _ => .control c a ci data) (fun _ => rfl) fun p primary h => by
    simp only [Instr.wf, Bool.and_eq_true] at h
    exact h.2

theorem setAddr (c : Byte) (a : Byte) (new : Byte) (extra : List Byte) :
    Statement (.setAddr c a new extra) :=
  of_frame (fun p => .control c a p.ciDataSend (setaddrB0 :: setaddrB1 :: new :: extra))
    (fun _ => rfl) fun p primary h => by
      simp only [Instr.wf, Bool.and_eq_true, decide_eq_true_eq] at h
      exact decide_eq_true (by simp only [List.length_cons]; omega)

theorem select (c : Byte) (a : Byte) (mask : Quad) (tail : Quad) :
    Statement (.select c a mask tail) :=
  of_frame (fun p => .control c a p.ciSelectSlave (mask.toList ++ tail.toList)) (fun _ => rfl)
    fun _ _ _ => rfl

theorem selectBadlen (c : Byte) (a : Byte) (data : List Byte) :
    Statement (.selectBadlen c a data) :=
  of_frame (fun p => .control c a p.ciSelectSlave data) (fun _ => rfl) fun p primary h => by
    simp only [Instr.wf, Bool.and_eq_true] at h
    exact h.1.2

theorem ignoreUnknown (f : Frame) : Statement (.ignoreUnknown f) :=
  of_frame (fun _ => f) (fun _ => rfl) fun p primary h => by
    simp only [Instr.wf, Bool.and_eq_true] at h
    exact h.1.1

theorem ackOut (d : Delay) : Statement (.ackOut d) := of_none (fun _ => rfl) rfl

theorem rspOut : Statement .rspOut := of_none (fun _ => rfl) rfl

theorem reset (cfg : Cfg) : Statement (.reset cfg) := of_none (fun _ => rfl) rfl

theorem rxbyte (b : Byte) : Statement (.rxbyte b) := of_none (fun _ => rfl) rfl

theorem rxgap : Statement .rxgap := of_none (fun _ => rfl) rfl

theorem rxerr : Statement .rxerr := of_none (fun _ => rfl) rfl

theorem shutdown : Statement .shutdown := of_none (fun _ => rfl) rfl

theorem fatal : Statement .fatal := of_none (fun _ => rfl) rfl

theorem tx (d : Delay) (bytes : List Byte) : Statement (.tx d bytes) := of_none (fun _ => rfl) rfl

theorem verdict (v : Verdict) : Statement (.verdict v) := of_none (fun _ => rfl) rfl

theorem setbaud : Statement .setbaud := of_none (fun _ => rfl) rfl

theorem checksum (f : Frame) : Statement (.checksum f) := of_none (fun _ => rfl) rfl

theorem checksumVerify (bytes : List Byte) (r : Byte) : Statement (.checksumVerify bytes r) := of_none (fun _ => rfl) rfl

theorem decode (buf : List Byte) : Statement (.decode buf) := of_none (fun _ => rfl) rfl

theorem encode (f : Frame) : Statement (.encode f) := of_none (fun _ => rfl) rfl

theorem matchPrimary (a : Byte) (p : Byte) : Statement (.matchPrimary a p) := of_none (fun _ => rfl) rfl

theorem matchSecondary (data : List Byte) (id : Quad) : Statement (.matchSecondary data id) := of_none (fun _ => rfl) rfl

theorem execute (f : Frame) : Statement (.execute f) := of_none (fun _ => rfl) rfl

end Sys2Proof.Laws.EncodeNonempty
end

