-- ==== Sys2Proof/Laws/Run.lean ====
section
/-!
SUPPORT. Runs of several steps: the unfolding equations of `steps`, and composition.
-/
namespace Sys2Proof.Machine

@[simp] theorem steps_zero (s : State) : steps 0 s = .next s := rfl

theorem steps_succ (n : Nat) (s : State) : steps (n + 1) s =
    match step s with
    | .next t => steps n t
    | .fault r => .fault r
    | .refused r => .refused r := by
  cases hs : step s <;> simp only [steps, Host.Core.run, core, hs]

theorem steps_one (s : State) : steps 1 s = step s := by
  rw [steps_succ]; cases step s <;> rfl

/-- After `a` steps that answer `t`, `b` more steps run from `t`. -/
theorem steps_add {a : Nat} (b : Nat) {s t : State} (h : steps a s = .next t) :
    steps (a + b) s = steps b t := by
  induction a generalizing s with
  | zero => cases h; rw [Nat.zero_add]
  | succ a ih =>
    rw [Nat.add_right_comm, steps_succ]
    rw [steps_succ] at h
    cases hs : step s with
    | next u => rw [hs] at h; exact ih h
    | fault r => rw [hs] at h; cases h
    | refused r => rw [hs] at h; cases h

end Sys2Proof.Machine
end

