-- ==== Sys2Proof/Tests/Slice0.lean ====
section
/-!
SUPPORT. The model's own tests. Expected results come from spec/95_test_vectors.md (the vector's name
stands in the comment) or from the encoding tables of spec/30_encoding.md worked by hand; the starting
state is that file's fixture. The witnesses at the end show, for every statement with hypotheses,
values that meet them.
-/
namespace Sys2Proof.Tests

open Machine

/-! ### The fixture -/

/-- The data of the fixture's response (95_test_vectors.md section 0). -/
def fixData : List Byte :=
  [0x78#8, 0x56#8, 0x34#8, 0x12#8, 0x24#8, 0x40#8, 0x01#8, 0x07#8, 0x55#8] ++
  [0x00#8, 0x00#8, 0x00#8, 0x0C#8, 0x13#8, 0x15#8, 0x31#8, 0x00#8, 0x00#8]

/-- The fixture's secondary id. -/
def fixId : Quad := ⟨0x78#8, 0x56#8, 0x34#8, 0x12#8⟩

/-- The fixture's configuration. -/
def fixCfg : Cfg where
  ok := true
  primary := 5#8
  baud := 2400
  device := "tty"
  debug := false
  resp := .fields 0x08#8 0x00#8 0x72#8 fixData
  secid := fixId.toList
  manuf := 0x4024#16
  medium := 0x07#8
  version := 0x01#8

/-- FIX, with no output recorded. -/
def fix : State :=
  { State.reset with
    primary := 5#8
    secid := fixId
    manuf := 0x4024#16
    medium := 0x07#8
    version := 0x01#8
    baud := 2400
    resp := ⟨0x08#8, 5#8, 0x72#8, fixData⟩
    outs := [] }

/-- FIX+SEL -/
def fixSel : State := { fix with selected := true }

/-- The bytes of RSP(a), the fixture's response, with its A byte and its checksum. -/
def rsp (a ck : Byte) : List Byte :=
  [0x68#8, 0x15#8, 0x15#8, 0x68#8, 0x08#8, a, 0x72#8] ++ fixData ++ [ck, 0x16#8]

/-- The outcome is a next state of which `p` holds. -/
def nextIs (o : Host.Outcome State Fault Refusal) (p : State → Bool) : Bool :=
  match o with
  | .next t => p t
  | .fault _ => false
  | .refused _ => false

/-- A frame about to be completed: its bytes but the last received, its last byte pending. -/
def arriving (s : State) (bytes : List Byte) : State := s.placeFrame bytes

/-- The 252-byte payload of V-D23. -/
def bigPayload : List Byte := List.replicate 252 0xAA#8

/-! ### WellFormed: each check refuses an ill-formed term -/

theorem test_wf_params : defaultParams.wf = true ∧
    ({ defaultParams with cSndNke := 0x5B#8 } : Params).wf = false ∧
    ({ defaultParams with cSndUd := 0x40#8 } : Params).wf = false ∧
    ({ defaultParams with cSndUd := 0x5B#8 } : Params).wf = false ∧
    ({ defaultParams with cSndNke := 0x60#8 } : Params).wf = false ∧
    ({ defaultParams with cReqUd2 := 0x7B#8 } : Params).wf = false ∧
    ({ defaultParams with cSndUd := 0x73#8 } : Params).wf = false ∧
    ({ defaultParams with ciDataSend := 0x52#8 } : Params).wf = false := by decide

/-- A rejection row whose bytes spell no rejection of that kind. -/
theorem test_wf_rejections :
    ([.errBadstartLead 0xE5#8, .errBadstartLead 0x10#8, .errBadstartLead 0x68#8,
      .errShortBadchecksum 0x5B#8 5#8 0x60#8 0x16#8, .errShortBadstop 0x5B#8 5#8 0x16#8,
      .errLongLengthmismatch 6#8 6#8, .errLongShortlength 3#8, .errLongBadstart2 2#8 0x10#8,
      .errLongBadstart2 6#8 0x68#8, .errLongBadchecksum 0x53#8 5#8 0x50#8 [] 0xA8#8 0x16#8,
      .errLongBadstop 0x53#8 5#8 0x50#8 [] 0x16#8, .errTruncated [], .errTruncated [0xE5#8],
      .errTruncated [0x10#8, 0x5B#8, 5#8, 0x60#8, 0x16#8]] : List Instr).all
        (fun i => !i.wf defaultParams 5#8) = true := by decide

/-- A frame row whose address, code, CI or length is another row's. -/
theorem test_wf_frame_rows :
    ([.ignoreNotForUs (.short 0x5B#8 5#8), .ignoreNotForUs (.short 0x5B#8 255#8),
      .ignoreNotForUs .ack, .sndNke 0x40#8 6#8, .sndNke 0x40#8 255#8, .sndNke 0x5B#8 5#8,
      .sndNkeLong 0x53#8 5#8 0#8 [], .reqUd2 0x40#8 5#8, .reqUd2 0x5B#8 6#8,
      .reqUd2Long 0x5A#8 5#8 0#8 [], .setAddr 0x5B#8 5#8 9#8 [], .setAddr 0x53#8 6#8 9#8 [],
      .select 0x53#8 6#8 fixId fixId, .select 0x40#8 5#8 fixId fixId,
      .selectBadlen 0x53#8 5#8 (fixId.toList ++ fixId.toList), .selectBadlen 0x5B#8 5#8 [],
      .ignoreUnknown (.short 0x5B#8 5#8), .ignoreUnknown (.short 0x5A#8 6#8),
      .ignoreUnknown (.control 0x53#8 5#8 0x51#8 [0x01#8, 0x7A#8, 9#8])] : List Instr).all
        (fun i => !i.wf defaultParams 5#8) = true := by decide

/-- A payload of 253 bytes, which no frame can carry, and the operands outside the inbound rows. -/
theorem test_wf_sizes :
    ([.ignoreBcastNoreplyLong 0#8 0#8 (0#8 :: bigPayload),
      .sndNkeLong 0x40#8 5#8 0#8 (0#8 :: bigPayload), .setAddr 0x53#8 5#8 9#8 (bigPayload.drop 2),
      .ignoreNotForUs (.control 0#8 6#8 0#8 (0#8 :: bigPayload)), .tx .zero [], .checksum .ack,
      .encode (.control 0#8 0#8 0#8 (0#8 :: bigPayload)),
      .execute (.control 0#8 0#8 0#8 (0#8 :: bigPayload)),
      .verdict (.ok (.control 0#8 0#8 0#8 (0#8 :: bigPayload)))] : List Instr).all
        (fun i => !i.wf defaultParams 5#8) = true := by decide +kernel

/-! ### Decoding: every inbound row from a word written out from 30_encoding.md -/

/-- V-D22. -/
theorem test_decode_badstart_lead :
    decode defaultParams 5#8 [0x69#8, 0x10#8] = (.errBadstartLead 0x69#8, [0x10#8]) := by decide

/-- V-D9: checksum before stop. -/
theorem test_decode_short_badchecksum :
    decode defaultParams 5#8 [0x10#8, 0x5B#8, 0x05#8, 0x61#8, 0x17#8] =
      (.errShortBadchecksum 0x5B#8 5#8 0x61#8 0x17#8, []) := by decide

/-- V-D8. -/
theorem test_decode_short_badstop :
    decode defaultParams 5#8 [0x10#8, 0x5B#8, 0x05#8, 0x60#8, 0x17#8] =
      (.errShortBadstop 0x5B#8 5#8 0x17#8, []) := by decide

/-- V-D18. -/
theorem test_decode_long_lengthmismatch :
    decode defaultParams 5#8 [0x68#8, 0x06#8, 0x07#8] = (.errLongLengthmismatch 6#8 7#8, []) := by
  decide

/-- V-D19: `L` below 3, three bytes consumed. -/
theorem test_decode_long_shortlength :
    decode defaultParams 5#8 [0x68#8, 0x02#8, 0x02#8, 0x68#8, 0x53#8] =
      (.errLongShortlength 2#8, [0x68#8, 0x53#8]) := by decide

/-- V-D21. -/
theorem test_decode_long_badstart2 :
    decode defaultParams 5#8 [0x68#8, 0x06#8, 0x06#8, 0x10#8] =
      (.errLongBadstart2 6#8 0x10#8, []) := by decide

/-- V-D13. -/
theorem test_decode_long_badchecksum :
    decode defaultParams 5#8 [0x68#8, 0x06#8, 0x06#8, 0x68#8, 0x53#8, 0xFD#8, 0x51#8, 0x01#8, 0x7A#8,
      0x09#8, 0x24#8, 0x16#8] =
      (.errLongBadchecksum 0x53#8 0xFD#8 0x51#8 [0x01#8, 0x7A#8, 0x09#8] 0x24#8 0x16#8, []) := by
  decide

/-- V-D14. -/
theorem test_decode_long_badstop :
    decode defaultParams 5#8 [0x68#8, 0x06#8, 0x06#8, 0x68#8, 0x53#8, 0xFD#8, 0x51#8, 0x01#8, 0x7A#8,
      0x09#8, 0x25#8, 0x00#8] =
      (.errLongBadstop 0x53#8 0xFD#8 0x51#8 [0x01#8, 0x7A#8, 0x09#8] 0x00#8, []) := by decide

/-- V-D16. -/
theorem test_decode_truncated :
    decode defaultParams 5#8 [0x68#8, 0x06#8, 0x06#8, 0x68#8] =
      (.errTruncated [0x68#8, 0x06#8, 0x06#8, 0x68#8], []) := by decide

/-- V-D3. -/
theorem test_decode_ack : decode defaultParams 5#8 [0xE5#8, 0x10#8] = (.ack, [0x10#8]) := by decide

/-- V-N6: address 255. -/
theorem test_decode_bcast_short :
    decode defaultParams 5#8 [0x10#8, 0x40#8, 0xFF#8, 0x3F#8, 0x16#8] =
      (.ignoreBcastNoreplyShort 0x40#8, []) := by decide

/-- 30_encoding.md R91 line 2, a control frame to 255: `53 + FF + 50` is `1A2`. -/
theorem test_decode_bcast_long :
    decode defaultParams 5#8 [0x68#8, 0x03#8, 0x03#8, 0x68#8, 0x53#8, 0xFF#8, 0x50#8, 0xA2#8, 0x16#8] =
      (.ignoreBcastNoreplyLong 0x53#8 0x50#8 [], []) := by decide

/-- V-Q8. -/
theorem test_decode_not_for_us :
    decode defaultParams 5#8 [0x10#8, 0x5B#8, 0x06#8, 0x61#8, 0x16#8] =
      (.ignoreNotForUs (.short 0x5B#8 6#8), []) := by decide

/-- V-N7: the FCB bit is set and stripped. -/
theorem test_decode_snd_nke :
    decode defaultParams 5#8 [0x10#8, 0x60#8, 0x05#8, 0x65#8, 0x16#8] =
      (.sndNke 0x60#8 5#8, []) := by decide

/-- V-N9. -/
theorem test_decode_snd_nke_long :
    decode defaultParams 5#8 [0x68#8, 0x03#8, 0x03#8, 0x68#8, 0x40#8, 0xFD#8, 0x00#8, 0x3D#8, 0x16#8] =
      (.sndNkeLong 0x40#8 253#8 0#8 [], []) := by decide

/-- V-Q1. -/
theorem test_decode_req_ud2 :
    decode defaultParams 5#8 [0x10#8, 0x5B#8, 0x05#8, 0x60#8, 0x16#8] =
      (.reqUd2 0x5B#8 5#8, []) := by decide

/-- V-Q9. -/
theorem test_decode_req_ud2_long :
    decode defaultParams 5#8 [0x68#8, 0x03#8, 0x03#8, 0x68#8, 0x5B#8, 0x05#8, 0x00#8, 0x60#8, 0x16#8] =
      (.reqUd2Long 0x5B#8 5#8 0#8 [], []) := by decide

/-- V-A7: an extra byte after NEW. -/
theorem test_decode_set_addr :
    decode defaultParams 5#8 [0x68#8, 0x07#8, 0x07#8, 0x68#8, 0x53#8, 0xFD#8, 0x51#8, 0x01#8, 0x7A#8,
      0x09#8, 0xAA#8, 0xCF#8, 0x16#8] = (.setAddr 0x53#8 253#8 9#8 [0xAA#8], []) := by decide

/-- V-S1. -/
theorem test_decode_select :
    decode defaultParams 5#8 [0x68#8, 0x0B#8, 0x0B#8, 0x68#8, 0x53#8, 0xFD#8, 0x52#8, 0x78#8, 0x56#8,
      0x34#8, 0x12#8, 0x24#8, 0x40#8, 0x01#8, 0x07#8, 0x22#8, 0x16#8] =
      (.select 0x53#8 253#8 fixId ⟨0x24#8, 0x40#8, 0x01#8, 0x07#8⟩, []) := by decide

/-- V-S5. -/
theorem test_decode_select_badlen :
    decode defaultParams 5#8 [0x68#8, 0x07#8, 0x07#8, 0x68#8, 0x53#8, 0xFD#8, 0x52#8, 0x78#8, 0x56#8,
      0x34#8, 0x12#8, 0xB6#8, 0x16#8] =
      (.selectBadlen 0x53#8 253#8 [0x78#8, 0x56#8, 0x34#8, 0x12#8], []) := by decide

/-- V-A6: DATA_SEND without a third byte. -/
theorem test_decode_unknown :
    decode defaultParams 5#8 [0x68#8, 0x05#8, 0x05#8, 0x68#8, 0x53#8, 0xFD#8, 0x51#8, 0x01#8, 0x7A#8,
      0x1C#8, 0x16#8] = (.ignoreUnknown (.control 0x53#8 253#8 0x51#8 [0x01#8, 0x7A#8]), []) := by
  decide

/-- Row 13 by its table word: `10 40 06 46 16` with bits 7..0 the first byte. -/
theorem test_decode_table_word :
    decodeTableWord 40 0x1646064010 = some (.ignoreNotForUs (.short 0x40#8 6#8)) := by decide

/-- The table word is fetched and run by the step after reset. -/
theorem test_step_table_word :
    nextIs (step (State.reset.withFetchWord 40 0x1640004010))
      (fun t => t.outs.drop 1 == [.verdict (.ok (.short 0x40#8 0#8)), .tx (.draw 0) [0xE5#8]]) =
      true := by decide

/-! ### Encoding -/

/-- V-E1, V-E2, V-E4, V-E5. -/
theorem test_encode :
    encode defaultParams .ack = some [0xE5#8] ∧
    encode defaultParams (.sndNke 0x40#8 253#8) =
      some [0x10#8, 0x40#8, 0xFD#8, 0x3D#8, 0x16#8] ∧
    encode defaultParams (.ignoreUnknown (.control 0x53#8 5#8 0x50#8 [])) =
      some [0x68#8, 0x03#8, 0x03#8, 0x68#8, 0x53#8, 0x05#8, 0x50#8, 0xA8#8, 0x16#8] ∧
    encode defaultParams (.setAddr 0x53#8 253#8 9#8 []) =
      some [0x68#8, 0x06#8, 0x06#8, 0x68#8, 0x53#8, 0xFD#8, 0x51#8, 0x01#8, 0x7A#8, 0x09#8, 0x25#8,
        0x16#8] ∧
    encode defaultParams .rxgap = none := by decide

/-! ### One step of each instruction -/

/-- Rows 1 to 9: the buffer is dropped and one verdict emitted, its code from 60_exceptions.md R211. -/
theorem test_exec_rejections :
    ([(.errBadstartLead 0x69#8, .badStart), (.errShortBadchecksum 0x5B#8 5#8 0x61#8 0x16#8, .badChecksum),
      (.errShortBadstop 0x5B#8 5#8 0x17#8, .badStop), (.errLongLengthmismatch 6#8 7#8, .lengthMismatch),
      (.errLongShortlength 2#8, .lengthMismatch), (.errLongBadstart2 6#8 0x10#8, .badStart),
      (.errLongBadchecksum 0x53#8 5#8 0x50#8 [] 0#8 0x16#8, .badChecksum),
      (.errLongBadstop 0x53#8 5#8 0x50#8 [] 0#8, .badStop), (.errTruncated [0x10#8], .truncated)] :
      List (Instr × FrameError)).all (fun p => nextIs (exec p.1 { fix with rxbuf := [0x10#8] })
        (fun t => t.rxbuf == [] && t.outs == [.verdict (.err (.frame p.2))])) = true := by decide

/-- P4: the verdict codes in order, and codes 6 to 8 (60_exceptions.md R211). -/
theorem test_verdict_codes :
    [Verdict.err (.frame .badChecksum), .err (.frame .truncated), .err (.frame .badStart),
      .err (.frame .lengthMismatch), .ok .ack, .err (.frame .badStop), .err .addressing,
      .err .transportReceive, .err .transportSend].map verdictCode = [2, 1, 5, 4, 0, 3, 6, 7, 8] := by
  decide

/-- V-I1: an ACK is received and ignored. -/
theorem test_step_ack : nextIs (step (arriving fixSel [0xE5#8]))
    (fun t => t.selected && t.outs == [.verdict (.ok .ack)]) = true := by decide

/-- V-N6: dropped by dispatch, not deselected. -/
theorem test_step_bcast_short :
    nextIs (step (arriving fixSel [0x10#8, 0x40#8, 0xFF#8, 0x3F#8, 0x16#8]))
      (fun t => t.selected && txCount t.outs == 0) = true := by decide

/-- V-S9: a selection to 255 that does not match. -/
theorem test_step_bcast_long :
    nextIs (step (arriving fixSel [0x68#8, 0x0B#8, 0x0B#8, 0x68#8, 0x53#8, 0xFF#8, 0x52#8, 0x78#8,
      0x56#8, 0x34#8, 0x13#8, 0xFF#8, 0xFF#8, 0xFF#8, 0xFF#8, 0xB5#8, 0x16#8]))
      (fun t => t.selected && txCount t.outs == 0 && t.outs.length == 1) = true := by decide

/-- V-A12: to address 6. -/
theorem test_step_not_for_us :
    nextIs (step (arriving fixSel [0x68#8, 0x06#8, 0x06#8, 0x68#8, 0x53#8, 0x06#8, 0x51#8, 0x01#8,
      0x7A#8, 0x09#8, 0x2E#8, 0x16#8]))
      (fun t => t.primary == 5#8 && txCount t.outs == 0) = true := by decide

/-- V-N3: deselected, no TX. -/
theorem test_step_snd_nke_network :
    nextIs (step (arriving fixSel [0x10#8, 0x40#8, 0xFD#8, 0x3D#8, 0x16#8]))
      (fun t => !t.selected && t.outs == [.verdict (.ok (.short 0x40#8 253#8))]) = true := by decide

/-- V-N2: acknowledged with a draw, not deselected. -/
theorem test_step_snd_nke_unicast :
    nextIs (step (arriving fixSel [0x10#8, 0x40#8, 0x05#8, 0x45#8, 0x16#8]))
      (fun t => t.selected && t.outs.drop 1 == [.tx (.draw 0) [0xE5#8]]) = true := by decide

/-- V-N9: the long form. -/
theorem test_step_snd_nke_long :
    nextIs (step (arriving fixSel [0x68#8, 0x03#8, 0x03#8, 0x68#8, 0x40#8, 0xFD#8, 0x00#8, 0x3D#8,
      0x16#8])) (fun t => !t.selected && txCount t.outs == 0) = true := by decide

/-- V-Q2: the FCB bit does not change the answer. -/
theorem test_step_req_ud2 :
    nextIs (step (arriving fix [0x10#8, 0x7B#8, 0x05#8, 0x80#8, 0x16#8]))
      (fun t => t.outs.drop 1 == [.tx .zero (rsp 5#8 0xB9#8)]) = true := by decide

/-- V-Q4: to 254 while Idle. -/
theorem test_step_req_ud2_idle :
    nextIs (step (arriving fix [0x10#8, 0x5B#8, 0xFE#8, 0x59#8, 0x16#8]))
      (fun t => txCount t.outs == 0) = true := by decide

/-- V-Q9: the long form. -/
theorem test_step_req_ud2_long :
    nextIs (step (arriving fix [0x68#8, 0x03#8, 0x03#8, 0x68#8, 0x5B#8, 0x05#8, 0x00#8, 0x60#8,
      0x16#8])) (fun t => t.outs.drop 1 == [.tx .zero (rsp 5#8 0xB9#8)]) = true := by decide

/-- V-A1. -/
theorem test_step_set_addr :
    nextIs (step (arriving fixSel [0x68#8, 0x06#8, 0x06#8, 0x68#8, 0x53#8, 0xFD#8, 0x51#8, 0x01#8,
      0x7A#8, 0x09#8, 0x25#8, 0x16#8]))
      (fun t => t.primary == 9#8 && t.resp.a == 9#8 && t.selected &&
        t.outs.drop 1 == [.tx .zero [0xE5#8]]) = true := by decide

/-- V-A2: while Idle. -/
theorem test_step_set_addr_idle :
    nextIs (step (arriving fix [0x68#8, 0x06#8, 0x06#8, 0x68#8, 0x53#8, 0xFD#8, 0x51#8, 0x01#8,
      0x7A#8, 0x09#8, 0x25#8, 0x16#8]))
      (fun t => t.primary == 5#8 && txCount t.outs == 0) = true := by decide

/-- V-S3: wildcards in two nibbles. -/
theorem test_step_select :
    nextIs (step (arriving fix [0x68#8, 0x0B#8, 0x0B#8, 0x68#8, 0x53#8, 0xFD#8, 0x52#8, 0x78#8, 0xF6#8,
      0x3F#8, 0x12#8, 0xFF#8, 0xFF#8, 0xFF#8, 0xFF#8, 0x5D#8, 0x16#8]))
      (fun t => t.selected && t.outs.drop 1 == [.tx .zero [0xE5#8]]) = true := by decide

/-- V-S4: one nibble differs. -/
theorem test_step_select_no_match :
    nextIs (step (arriving fixSel [0x68#8, 0x0B#8, 0x0B#8, 0x68#8, 0x53#8, 0xFD#8, 0x52#8, 0x78#8,
      0x56#8, 0x34#8, 0x13#8, 0xFF#8, 0xFF#8, 0xFF#8, 0xFF#8, 0xB3#8, 0x16#8]))
      (fun t => !t.selected && t.outs.length == 1) = true := by decide

/-- V-S6: no data; the second verdict is AddressingError. -/
theorem test_step_select_badlen :
    nextIs (step (arriving fixSel [0x68#8, 0x03#8, 0x03#8, 0x68#8, 0x53#8, 0x05#8, 0x52#8, 0xAA#8,
      0x16#8]))
      (fun t => !t.selected && t.outs == [.verdict (.ok (.control 0x53#8 5#8 0x52#8 [])),
        .verdict (.err .addressing)]) = true := by decide

/-- V-I2: another slave's response. -/
theorem test_step_unknown :
    nextIs (step (arriving fixSel [0x68#8, 0x06#8, 0x06#8, 0x68#8, 0x08#8, 0x05#8, 0x72#8, 0x01#8,
      0x02#8, 0x03#8, 0x85#8, 0x16#8]))
      (fun t => t.selected && t.outs.length == 1) = true := by decide

/-- V-E1 as an output. -/
theorem test_exec_ack_out :
    nextIs (exec (.ackOut .zero) fix) (fun t => t.outs == [.tx .zero [0xE5#8]]) = true := by decide

/-- P3 step 3: RSP(9). -/
theorem test_exec_rsp_out :
    nextIs (exec .rspOut { fix with primary := 9#8 })
      (fun t => t.resp.a == 9#8 && t.outs == [.tx .zero (rsp 9#8 0xBD#8)]) = true := by decide

/-- V-X1 and V-X6. -/
theorem test_exec_reset :
    nextIs (exec (.reset fixCfg) { fixSel with primary := 9#8, runstate := .halt })
      (fun t => t == { fix with outs := [.setbaud 2400] }) = true := by decide

/-- V-X3, V-X4 and V-X5: raw bytes as CFG_RESP. -/
theorem test_resp_of_blob :
    respOfBlob (rsp 0#8 0xB4#8) = some ⟨0x08#8, 0#8, 0x72#8, fixData⟩ ∧
    respOfBlob (rsp 0#8 0xB5#8) = none ∧
    respOfBlob [0x10#8, 0x08#8, 0x05#8, 0x0D#8, 0x16#8] = none := by decide

/-- V-R7: the third byte of `68 06 07`. -/
theorem test_exec_rxbyte :
    nextIs (exec (.rxbyte 0x07#8) { fix with rxbuf := [0x68#8, 0x06#8] })
      (fun t => t.rxbuf == [] && t.outs == [.verdict (.err (.frame .lengthMismatch))]) = true := by
  decide

/-- V-R14: frozen in HALT. -/
theorem test_exec_rxbyte_halt :
    nextIs (exec (.rxbyte 0x05#8) { fix with rxbuf := [0x10#8, 0x5B#8], runstate := .halt })
      (fun t => t.rxbuf == [0x10#8, 0x5B#8] && t.outs == []) = true := by decide

/-- V-R2 and V-R3. -/
theorem test_exec_rxgap :
    nextIs (exec .rxgap { fix with rxbuf := [0x10#8, 0x5B#8, 0x05#8] })
      (fun t => t.rxbuf == [] && t.outs == [.verdict (.err (.frame .truncated))]) = true ∧
    nextIs (exec .rxgap fix) (fun t => t.outs == []) = true := by decide

/-- V-R4. -/
theorem test_exec_rxerr :
    nextIs (exec .rxerr { fix with rxbuf := [0x10#8, 0x5B#8, 0x05#8] })
      (fun t => t.rxbuf == [] && t.outs == [.verdict (.err .transportReceive)]) = true := by decide

/-- P8 step 2. -/
theorem test_exec_shutdown :
    nextIs (exec .shutdown { fix with rxbuf := [0x10#8, 0x5B#8] })
      (fun t => t.runstate == .halt && t.rxbuf == [0x10#8, 0x5B#8] && t.outs == []) = true := by decide

/-- V-R14. -/
theorem test_exec_fatal :
    nextIs (exec .fatal fix) (fun t => t.runstate == .halt && t.outs == []) = true := by decide

/-- 43_transport.md R197, R199, R201. -/
theorem test_exec_outputs :
    nextIs (exec (.tx (.draw 3) [1#8]) fix) (fun t => t.outs == [.tx (.draw 3) [1#8]]) = true ∧
    nextIs (exec (.verdict (.err .transportSend)) fix)
      (fun t => t.outs.map (fun o => o == .verdict (.err .transportSend)) == [true]) = true ∧
    nextIs (exec .setbaud fix) (fun t => t.outs == [.setbaud 2400]) = true := by decide

/-- V-CS2, V-CS6. -/
theorem test_exec_checksum :
    nextIs (exec (.checksum (.short 0x5B#8 5#8)) fix) (fun t => t.ret == some (.byte 0x60#8)) = true ∧
    nextIs (exec (.checksum (.control 0x53#8 0xFD#8 0x51#8 [0x01#8, 0x7A#8, 0x09#8])) fix)
      (fun t => t.ret == some (.byte 0x25#8)) = true := by decide

/-- V-CS1, V-CS3, V-CS5 and V-CS7: wraps. -/
theorem test_sum8 : sum8 [] = 0x00#8 ∧ sum8 [0xFF#8, 0xFF#8] = 0xFE#8 ∧ sum8 [0x80#8, 0x80#8] = 0#8 ∧
    sum8 ([0x08#8, 0x01#8, 0x72#8] ++ bigPayload) = 0xD3#8 := by decide +kernel

/-- V-CS9. -/
theorem test_exec_checksum_verify :
    nextIs (exec (.checksumVerify [0x5B#8, 0x05#8] 0x60#8) fix) (fun t => t.ret == some (.flag true)) =
      true ∧
    nextIs (exec (.checksumVerify [0x5B#8, 0x05#8] 0x61#8) fix)
      (fun t => t.ret == some (.flag false)) = true := by decide

/-- V-D6: start values inside a frame are data. -/
theorem test_exec_decode :
    nextIs (exec (.decode [0x10#8, 0x10#8, 0x68#8, 0x78#8, 0x16#8]) fix)
      (fun t => t.ret == some (.decoded (.ok (.short 0x10#8 0x68#8)) 5) && t.outs == []) = true := by
  decide

/-- V-D1 and V-D26. -/
theorem test_decode_frame :
    decodeFrame [] = (.err .truncated, 0) ∧
    decodeFrame [0x68#8, 0x03#8, 0x03#8, 0x68#8, 0xE5#8, 0xE5#8, 0xE5#8, 0xAF#8, 0x16#8] =
      (.ok (.control 0xE5#8 0xE5#8 0xE5#8 []), 9) := by decide

/-- V-E7. -/
theorem test_exec_encode :
    nextIs (exec (.encode (.control 0x08#8 5#8 0x72#8 fixData)) fix)
      (fun t => t.ret == some (.bytes (rsp 5#8 0xB9#8))) = true := by decide

/-- V-MP1 to V-MP10. -/
theorem test_match_primary :
    matchesPrimary 5#8 5#8 = true ∧ matchesPrimary 6#8 5#8 = false ∧
    matchesPrimary 253#8 5#8 = true ∧ matchesPrimary 254#8 5#8 = true ∧
    matchesPrimary 255#8 5#8 = false ∧ matchesPrimary 252#8 252#8 = true ∧
    matchesPrimary 255#8 255#8 = true := by decide

/-- V-MS5, V-MS6, V-MS10, V-MS11 and V-MS12. -/
theorem test_mask_matches :
    maskMatches ⟨0x88#8, 0x56#8, 0x34#8, 0x12#8⟩ fixId = false ∧
    maskMatches ⟨0xF8#8, 0xF6#8, 0xF4#8, 0xF3#8⟩ fixId = false ∧
    maskMatches ⟨0x7A#8, 0x56#8, 0x34#8, 0x12#8⟩ fixId = false ∧
    maskMatches ⟨0x12#8, 0x34#8, 0x56#8, 0x78#8⟩ fixId = false ∧
    matchesSecondary [0x78#8, 0x56#8, 0x34#8, 0x12#8, 0#8, 0#8, 0#8, 0#8] fixId = (true, none) := by
  decide

/-- V-MS9: nine bytes. -/
theorem test_exec_match_secondary :
    nextIs (exec (.matchSecondary (fixId.toList ++ [0xFF#8, 0xFF#8, 0xFF#8, 0xFF#8, 0#8]) fixId) fix)
      (fun t => t.ret == some (.matched false (some .addressing)) && t.outs == []) = true := by decide

/-- V-A10: NEW = 255, executed as a frame value. -/
theorem test_exec_execute :
    nextIs (exec (.execute (.control 0x53#8 253#8 0x51#8 [0x01#8, 0x7A#8, 255#8])) fixSel)
      (fun t => t.primary == 255#8 && t.resp.a == 255#8 && t.outs == [.tx .zero [0xE5#8]]) = true := by
  decide

/-! ### Witnesses: values that meet the hypotheses of the statements -/

/-- FIX with a pending event. -/
def fixWith (evs : List Event) : State := { fix with inq := evs }

/-- FIX in HALT. -/
def fixHalt : State := { fix with runstate := .halt }

/-- A control frame of the greatest length. -/
def bigFrame : Frame := .control 0x08#8 0x01#8 0x72#8 bigPayload

theorem witness_ResetStateIsResetOfBootConfiguration :
    fix.par = defaultParams ∧ fix.inq = [] ∧ fix.outs = [] ∧ fix.draws = 0 ∧ fix.ret = none ∧
    fix ≠ State.reset := by decide

/-- One success, and each of the three failures. -/
theorem witness_ResetLoadsEveryRegisterOrHalts :
    (fixCfg.ok = true ∧ quadOf fixCfg.secid = some fixId ∧
      (respOfCfg fixCfg.resp).isSome = true) ∧
    ({ fixCfg with ok := false } : Cfg).ok = false ∧
    quadOf ({ fixCfg with secid := [1#8, 2#8, 3#8] } : Cfg).secid = none ∧
    quadOf [1#8, 2#8, 3#8, 4#8, 5#8] = none ∧
    respOfCfg (.raw [0xE5#8]) = none ∧
    respOfCfg (.fields 0#8 0#8 0#8 (0#8 :: bigPayload)) = none := by decide +kernel

/-- Each kind of accepted response, and the payload bound. -/
theorem witness_StartupAcceptsWellFormedConfigurationsOnly :
    (regsOfCfg fixCfg).isSome = true ∧
    (regsOfCfg { fixCfg with resp := .raw (rsp 0#8 0xB4#8) }).isSome = true ∧
    (regsOfCfg { fixCfg with resp := .fields 0#8 0#8 0#8 bigPayload }).isSome = true ∧
    (regsOfCfg { fixCfg with resp := .raw (rsp 0#8 0xB5#8) }).isSome = false := by decide +kernel

theorem witness_startup_builtin : (regsOfCfg { fixCfg with resp := .builtin }).isSome = true := rfl

theorem witness_AcceptedBlobIsEncodedFrame :
    respOfBlob (rsp 0#8 0xB4#8) = some ⟨0x08#8, 0#8, 0x72#8, fixData⟩ := by decide

theorem witness_EncodedFrameBytes : bigPayload.length ≤ 252 ∧ ([] : List Byte).length ≤ 252 := by
  decide +kernel

/-- V-D23 and V-D3. -/
theorem witness_CodecRoundTrip : frameFits bigFrame = true ∧ frameFits .ack = true ∧
    decodeFrame (encodeFrame bigFrame) = (.ok bigFrame, 261) ∧
    decodeFrame [0xE5#8, 0x10#8] = (.ok .ack, 1) ∧ decodeFrame [0xE5#8] = (.ok .ack, [0xE5#8].length) := by
  decide +kernel

theorem witness_CorruptedChecksumIsRejected :
    frameFits bigFrame = true ∧ bigFrame ≠ .ack ∧ 0xD4#8 ≠ checksum bigFrame ∧
    frameFits (.short 0x5B#8 5#8) = true ∧ 0x61#8 ≠ checksum (.short 0x5B#8 5#8) := by decide +kernel

/-- A success, an error and both with bytes to follow. -/
theorem witness_DecodeIsShortestVerdict :
    decodeFrame [0x10#8, 0x5B#8, 0x05#8, 0x60#8, 0x16#8, 0x10#8] = (.ok (.short 0x5B#8 5#8), 5) ∧
    FrameError.badStart ≠ .truncated ∧ decodeFrame [0x00#8, 0x10#8] = (.err .badStart, 1) ∧
    Decoded.err .badStart ≠ .err .truncated ∧
    (∀ k, k ≤ [0x10#8, 0x5B#8].length → rxClassify ([0x10#8, 0x5B#8].take k) = .more) := by decide

/-- V-D10, and the empty buffer. -/
theorem witness_TruncatedExactlyInsideAFrame :
    decodeFrame [0x10#8, 0x5B#8, 0x05#8, 0x60#8] = (.err .truncated, 4) ∧
    decodeFrame [] = (.err .truncated, 0) := by decide

theorem witness_LeadByteDecidesAckAndBadStart :
    0x11#8 ≠ 0xE5#8 ∧ 0x11#8 ≠ 0x10#8 ∧ 0x11#8 ≠ 0x68#8 := by decide

theorem witness_ShortFrameDecoding :
    ([] : List Byte).length < 4 ∧ [0x5B#8, 0x05#8, 0x60#8].length < 4 := by decide

/-- The bounds 2 and 3 of the L byte, and 255. -/
theorem witness_LongHeaderDecoding : 6#8 ≠ 7#8 ∧ (2#8).toNat < 3 ∧ (0#8).toNat < 3 ∧
    3 ≤ (3#8).toNat ∧ 3 ≤ (255#8).toNat ∧ 0x10#8 ≠ 0x68#8 := by decide

theorem witness_LongTrailerDecoding :
    (3#8).toNat = 3 + ([] : List Byte).length ∧ (255#8).toNat = 3 + bigPayload.length := by
  decide +kernel

/-- The empty buffer and the longest partial frame (V-D24). -/
theorem witness_PartialFrameIsShortAndStarted :
    rxClassify [] = .more ∧ rxClassify ((encodeFrame bigFrame).take 260) = .more ∧
    ((encodeFrame bigFrame).take 260).length = 260 := by decide +kernel

/-- One row of each kind: a frame, a rejection of a Short frame, a partial frame. -/
theorem witness_DecodeInvertsEncode : defaultParams.wf = true ∧
    (Instr.setAddr 0x73#8 254#8 9#8 [1#8]).wf defaultParams 5#8 = true ∧
    (encode defaultParams (.setAddr 0x73#8 254#8 9#8 [1#8])).isSome = true ∧
    (Instr.errShortBadstop 0x5B#8 5#8 0x17#8).wf defaultParams 5#8 = true ∧
    (encode defaultParams (.errShortBadstop 0x5B#8 5#8 0x17#8)).isSome = true ∧
    (Instr.errTruncated [0x68#8, 6#8, 6#8]).wf defaultParams 5#8 = true := by decide

theorem witness_EncodeInvertsDecode : [0xE5#8, 0x10#8] ≠ [] ∧
    decode defaultParams 5#8 [0xE5#8, 0x10#8] = (.ack, [0x10#8]) := by decide

theorem witness_StepExecutesFirstEvent :
    (fixWith [.gap, .rxerr]).inq = .gap :: [.rxerr] ∧ fix.inq = [] := by decide

/-- The bytes of V-Q1: its last byte completes a frame, a wrong one a rejection, its first neither. -/
theorem witness_StepRunsDecodedInstruction :
    fix.runstate = .run ∧ rxClassify [0x10#8, 0x5B#8, 0x05#8, 0x60#8] = .more ∧
    decode fix.par fix.primary [0x10#8, 0x5B#8, 0x05#8, 0x60#8, 0x16#8] = (.reqUd2 0x5B#8 5#8, []) ∧
    rxClassify [0x10#8, 0x5B#8, 0x05#8, 0x60#8, 0x16#8] = .done (.short 0x5B#8 5#8) ∧
    rxClassify [0x10#8, 0x5B#8, 0x05#8, 0x60#8, 0x17#8] = .err .badStop ∧
    rxClassify ([] ++ [0x10#8]) = .more := by decide

theorem witness_FetchWordRunsTableInstruction :
    State.reset.par = defaultParams ∧ State.reset.primary = bootCfg.primary := by decide

/-- A frame with bytes to follow, a partial frame, and no bytes at all. -/
theorem witness_ByteStreamAgreesWithDecode :
    fix.runstate = .run ∧ fix.rxbuf = [] ∧
    (fixWith [.rx 0xE5#8, .rx 0x10#8, .gap, .rxerr]).inq =
      [0xE5#8, 0x10#8].map .rx ++ .gap :: [.rxerr] ∧
    decodeFrame [0xE5#8, 0x10#8] = (.ok .ack, 1) ∧ Decoded.ok .ack ≠ .err .truncated ∧
    decodeFrame [0x10#8] = (.err .truncated, 1) ∧ [0x10#8] ≠ [] ∧
    (fixWith [.gap, .rxerr]).inq = [].map .rx ++ .gap :: [.rxerr] := by decide

theorem witness_ReceivedByteEffect :
    fixHalt.runstate = .halt ∧ fix.runstate = .run ∧ rxClassify (fix.rxbuf ++ [0x68#8]) = .more ∧
    rxClassify (fix.rxbuf ++ [0x00#8]) = .err .badStart ∧
    rxClassify (fix.rxbuf ++ [0xE5#8]) = .done .ack := by decide

/-- Both cases of the gap. -/
theorem witness_GapEffect : fix.runstate = .run ∧ fix.rxbuf = [] ∧
    (arriving fix [0x10#8, 0x5B#8]).runstate = .run ∧ (arriving fix [0x10#8, 0x5B#8]).rxbuf ≠ [] := by
  decide

theorem witness_ReceiveErrorEffect : fix.runstate = .run := by decide

theorem witness_HaltConsumesEventsSilently :
    fixHalt.runstate = .halt ∧ isResetEvent .fatal = false ∧ isResetEvent (.rx 1#8) = false ∧
    ({ fixHalt with inq := [.fatal] } : State).inq = .fatal :: [] := by decide

theorem witness_OnlyResetLeavesHalt : fixHalt.runstate = .halt ∧ isReset .fatal = false ∧
    nextIs (exec .fatal fixHalt) (fun t => t == fixHalt) = true := by decide

theorem witness_RejectionRowsRaise :
    rejectionError (.errBadstartLead 0#8) = some .badStart ∧ fix.runstate = .run := by decide

/-- Acknowledged by the unicast address and by 254, not by 253, and by 253 as the unicast address. -/
theorem witness_SndNkeEffect : fix.runstate = .run ∧ fix.par.nkeNetlayerAck = false ∧
    heard fix.primary 5#8 = true ∧ heard fix.primary 254#8 = true ∧ heard fix.primary 253#8 = true ∧
    heard 253#8 253#8 = true ∧ heard fix.primary 255#8 = false := by decide

theorem witness_SndNkeNetworkAckParameter :
    ({ fix with par := { defaultParams with nkeNetlayerAck := true } } : State).runstate = .run ∧
    ({ defaultParams with nkeNetlayerAck := true } : Params).nkeNetlayerAck = true := by decide

/-- Answered by the unicast address, and while Selected by 253. -/
theorem witness_ReqUd2Effect : fix.runstate = .run ∧ heard fix.primary 5#8 = true ∧
    fixSel.selected = true ∧ heard fixSel.primary 253#8 = true ∧
    ¬ (fix.selected = true ∨ 253#8 = fix.primary) := by decide

theorem witness_SetAddrEffect : fixSel.runstate = .run ∧ heard fixSel.primary 253#8 = true ∧
    fixSel.selected = true ∧ fix.selected = false ∧ heard fix.primary 253#8 = true ∧
    fixSel.par.wf = true ∧ codeOf fixSel.par 0x73#8 = fixSel.par.cSndUd ∧
    ¬ (3 ≤ [0x01#8, 0x7A#8].length) ∧ byteAt [0x01#8, 0x7B#8, 9#8] 1 ≠ 0x7A#8 := by decide

/-- A match, a mismatch and the lengths 7 and 9. -/
theorem witness_SelectEffect : fix.runstate = .run ∧ heard fix.primary 253#8 = true ∧
    maskMatches fixId fix.secid = true ∧
    maskMatches ⟨0x78#8, 0x56#8, 0x34#8, 0x13#8⟩ fix.secid = false ∧
    (List.replicate 7 0#8).length ≠ 8 ∧ (List.replicate 9 0#8).length ≠ 8 := by decide

theorem witness_UnheardFramesDoNothing :
    frameAddress (.short 0x5B#8 6#8) = some 6#8 ∧ heard fix.primary 6#8 = false ∧
    frameAddress (.short 0x5B#8 255#8) = some 255#8 ∧ heard 255#8 255#8 = false ∧
    Instr.frame? fix.par (.reqUd2 0x5B#8 6#8) = some (.short 0x5B#8 6#8) := by decide

theorem witness_ExecuteDispatch : fix.runstate = .run := by decide

theorem witness_FcbChangesNothing :
    0x7B#8 &&& ~~~fix.par.fcbMask = 0x5B#8 &&& ~~~fix.par.fcbMask := by decide

theorem witness_TwoControlBytesPerCode : defaultParams.wf = true ∧ 5 < 8 ∧
    defaultParams.fcbMask = 1#8 <<< 5 ∧ codeOf defaultParams 0x7B#8 = defaultParams.cReqUd2 ∧
    codeOf defaultParams 0x4B#8 ≠ defaultParams.cReqUd2 := by decide

theorem witness_OutputRowsEmit : fix.runstate = .run := by decide

theorem witness_MatchSecondaryReturns : ([] : List Byte).length ≠ 8 ∧
    (List.replicate 9 0#8).length ≠ 8 ∧ (fixId.toList ++ fixId.toList).length = 8 := by decide

theorem witness_SecondaryMatchProperties :
    (byteAt [0xF8#8, 0xF6#8, 0xF4#8, 0xF3#8] 3).extractLsb' 0 4 ≠ 0xF#4 ∧
    (byteAt [0xF8#8, 0xF6#8, 0xF4#8, 0xF3#8] 3).extractLsb' 0 4 ≠
      (byteAt fixId.toList 3).extractLsb' 0 4 := by decide

/-- A decimal id, and a mask nibble `A`. -/
theorem witness_NonDecimalMaskNeverMatches :
    (∀ n, n < 4 → ((byteAt fixId.toList n).extractLsb' 4 4).toNat ≤ 9 ∧
      ((byteAt fixId.toList n).extractLsb' 0 4).toNat ≤ 9) ∧
    10 ≤ ((byteAt [0x7A#8, 0x56#8, 0x34#8, 0x12#8] 0).extractLsb' 0 4).toNat ∧
    ((byteAt [0x7A#8, 0x56#8, 0x34#8, 0x12#8] 0).extractLsb' 0 4).toNat ≤ 14 := by decide

theorem witness_ReadOnlyRegistersKept : isReset .rspOut = false ∧
    nextIs (exec .rspOut fix) (fun _ => true) = true := by decide

theorem witness_InstructionFrames : rejectionError .rspOut = none ∧
    nextIs (exec .rspOut fix) (fun t => t.runstate == .run) = true := by decide

/-- A step that selects and one that deselects. -/
theorem witness_SelectedTransitions :
    nextIs (step (arriving fix (encodeFrame (.control 0x53#8 253#8 0x52#8 (List.replicate 8 0xFF#8)))))
      (fun t => t.selected) = true ∧ fix.selected = false ∧
    nextIs (step (arriving fixSel [0x10#8, 0x40#8, 0xFD#8, 0x3D#8, 0x16#8]))
      (fun t => !t.selected) = true ∧ fixSel.selected = true := by decide

theorem witness_PrimaryChangesOnlyByCommand :
    nextIs (step (arriving fixSel (encodeFrame (.control 0x53#8 5#8 0x51#8 [0x01#8, 0x7A#8, 9#8]))))
      (fun t => t.primary != fixSel.primary) = true ∧ fixSel.selected = true := by decide

/-- A step with a TX, and one with two verdicts. -/
theorem witness_StepOutputShape :
    nextIs (step (arriving fix [0x10#8, 0x5B#8, 0x05#8, 0x60#8, 0x16#8]))
      (fun t => txCount t.outs == 1) = true ∧
    nextIs (step (arriving fix (encodeFrame (.control 0x53#8 5#8 0x52#8 []))))
      (fun t => t.outs.length == 2 && t.outs.all isVerdict &&
        (t.outs.filter isCodecVerdict).length == 1) = true := by decide

theorem witness_AddressChangeBitesAtOnce :
    fixSel.runstate = .run ∧ fixSel.selected = true ∧ heard fixSel.primary 253#8 = true ∧
    nextIs (exec (.setAddr 0x53#8 253#8 9#8 []) fixSel) (fun t => t.primary == 9#8) = true ∧
    fixSel.primary ≠ 9#8 ∧ fixSel.primary ≠ 253#8 ∧ fixSel.primary ≠ 254#8 ∧
    frameAddress (.short 0x5B#8 5#8) = some fixSel.primary ∧ 9#8 ≠ 255#8 ∧ 253#8 ≠ 255#8 ∧
    nextIs (exec (.setAddr 0x53#8 253#8 255#8 []) fixSel) (fun t => t.primary == 255#8) = true ∧
    codeOf fixSel.par 0x7B#8 = fixSel.par.cReqUd2 ∧ fixSel.par.cSndNke ≠ fixSel.par.cReqUd2 := by
  decide

theorem witness_RepeatedFrameSameEndState :
    nextIs (exec (.execute (.short 0x40#8 253#8)) fixSel) (fun t =>
      nextIs (exec (.execute (.short 0x40#8 253#8)) t) (fun _ => true)) = true := by decide

theorem witness_InertRegistersDoNotInterfere :
    (∀ ev, (fixWith [.gap]).inq.head? = some ev → isResetEvent ev = false) ∧
    nextIs (step (fixWith [.gap])) (fun _ => true) = true := by
  refine ⟨fun ev h => ?_, by decide⟩
  cases h; rfl

/-- A step that takes a draw. -/
theorem witness_DrawsDoNotInterfere :
    isResetEvent (.rx 0x16#8) = false ∧
    nextIs (step (arriving fix [0x10#8, 0x40#8, 0x05#8, 0x45#8, 0x16#8]))
      (fun t => t.draws == 1) = true ∧
    nextIs (step { arriving fix [0x10#8, 0x40#8, 0x05#8, 0x45#8, 0x16#8] with draws := 7 })
      (fun t => t.draws == 8) = true := by decide

/-- The invariant holds in FIX with a partial frame pending, and a step is taken from there. -/
theorem witness_StepKeepsInvariant : Inv (arriving fix [0x10#8, 0x40#8]) ∧
    nextIs (step (arriving fix [0x10#8, 0x40#8])) (fun t => t.rxbuf.length == 2) = true := by decide

end Sys2Proof.Tests
end

namespace Sys2Proof.Machine

/-! ### Fetch and step, by the form of the event queue -/

/-- The queue's head is taken off by `takeEvent`, and no other field changes (60_exceptions.md R220). -/
theorem State.takeEvent_of_inq_cons {s : State} {ev : Event} {rest : List Event}
    (h : s.inq = ev :: rest) : s.takeEvent = { s with inq := rest } := by
  rw [State.takeEvent, h, List.tail_cons]

theorem fetch_of_inq_nil {s : State} (h : s.inq = []) : fetch s = none := by
  rw [fetch, h]

theorem fetch_of_inq_cons {s : State} {ev : Event} {rest : List Event} (h : s.inq = ev :: rest) :
    fetch s = some (eventInstr ev, { s with inq := rest }) := by
  rw [← State.takeEvent_of_inq_cons h, fetch, h]

theorem step_of_inq_nil {s : State} (h : s.inq = []) : step s = .next s := by
  rw [step, fetch_of_inq_nil h]

theorem step_of_inq_cons {s : State} {ev : Event} {rest : List Event} (h : s.inq = ev :: rest) :
    step s = exec (eventInstr ev) { s with inq := rest } := by
  rw [step, fetch_of_inq_cons h]

/-- Settles O19: the two forms of the event queue are the two branches of `fetch`, and `step` executes
what `fetch` answers. -/
theorem stepExecutesFirstEvent : Obligations.StepExecutesFirstEvent :=
  ⟨fun _ _ _ h => step_of_inq_cons h, fun _ h => step_of_inq_nil h⟩

end Sys2Proof.Machine

namespace Sys2Proof.Machine

/-! ### Frames of the commands and of the receiver -/

/-- SND_NKE writes SELECTED, the draws and the outputs only (42_slave_commands.md R160). -/
theorem sndNke_frame (s : State) (a : Byte) : ∃ selected draws outs,
    sndNke s a = { s with selected := selected, draws := draws, outs := outs } := by
  rw [sndNke_eq]
  split_ifs
  · exact ⟨_, _, _, rfl⟩
  · exact ⟨_, s.draws, s.outs, rfl⟩

/-- REQ_UD2 writes RESP.A, to PRIMARY if at all, and the outputs only (R165). -/
theorem reqUd2_frame (s : State) (a : Byte) : ∃ respA outs, (respA = s.resp.a ∨ respA = s.primary) ∧
    reqUd2 s a = { s with resp := { s.resp with a := respA }, outs := outs } := by
  rcases reqUd2_cases s a with ⟨_, e⟩ | ⟨_, _, e⟩
  · exact ⟨s.primary, _, .inr rfl, by rw [e, sendResponse_eq]⟩
  · exact ⟨s.resp.a, s.outs, .inl rfl, e⟩

/-- SET_ADDR writes PRIMARY, RESP.A and the outputs only, and both registers alike (R170). -/
theorem setAddr_frame (s : State) (new : Byte) : ∃ primary respA outs,
    (primary = s.primary ∧ respA = s.resp.a ∨ respA = primary) ∧
    setAddr s new =
      { s with primary := primary, resp := { s.resp with a := respA }, outs := outs } := by
  rcases setAddr_cases s new with ⟨_, e⟩ | ⟨_, e⟩
  · exact ⟨new, new, _, .inr rfl, e⟩
  · exact ⟨s.primary, s.resp.a, s.outs, .inl ⟨rfl, rfl⟩, e⟩

/-- SELECT writes SELECTED and the outputs only (R175). -/
theorem select_frame (s : State) (data : List Byte) : ∃ selected outs,
    select s data = { s with selected := selected, outs := outs } := by
  rcases select_cases s data with ⟨_, _, e⟩ | ⟨_, _, e⟩ | ⟨_, e⟩
  · exact ⟨_, _, e⟩
  · exact ⟨_, s.outs, e⟩
  · exact ⟨_, _, e⟩

/-! ### What an instruction can do -/

/-- The row is a pure function, whose only effect is the value it returns (log entry 10). -/
def isFunctionRow : Instr → Bool
  | .checksum _ | .checksumVerify .. | .decode _ | .encode _ | .matchPrimary ..
  | .matchSecondary .. => true
  | _ => false

/-- The output of a row that emits one output and does nothing else. -/
def outputOfRow (s : State) : Instr → Option Output
  | .ackOut d => some (.tx d (encodeFrame .ack))
  | .tx d bytes => some (.tx d bytes)
  | .verdict v => some (.verdict v)
  | .setbaud => some (.setbaud s.baud)
  | _ => none

/-- `ExecEffect s i t`: executing row `i` in `s` can lead to `t`. One constructor per kind of row, with
the guard it runs under; `nothing` covers the rows that ignore and every guard that fails. -/
inductive ExecEffect (s : State) : Instr → State → Prop
  | nothing {i} (h : isReset i = false) : ExecEffect s i s
  | returned {i} (v : Value) (h : isFunctionRow i = true) : ExecEffect s i (s.setRet v)
  | raised {i e} (h : rejectionError i = some e) (hrun : s.runstate = .run) :
      ExecEffect s i (s.raiseFrame e)
  | emitted {i o} (h : outputOfRow s i = some o) (hrun : s.runstate = .run) :
      ExecEffect s i (s.emit o)
  | rspOut (hrun : s.runstate = .run) : ExecEffect s .rspOut (sendResponse s)
  | sndNke (c a) (hrun : s.runstate = .run) (ha : heard s.primary a = true) :
      ExecEffect s (.sndNke c a) (sndNke s a)
  | sndNkeLong (c a ci data) (hrun : s.runstate = .run) (ha : heard s.primary a = true) :
      ExecEffect s (.sndNkeLong c a ci data) (sndNke s a)
  | reqUd2 (c a) (hrun : s.runstate = .run) (ha : heard s.primary a = true) :
      ExecEffect s (.reqUd2 c a) (reqUd2 s a)
  | reqUd2Long (c a ci data) (hrun : s.runstate = .run) (ha : heard s.primary a = true) :
      ExecEffect s (.reqUd2Long c a ci data) (reqUd2 s a)
  | setAddr (c a new extra) (hrun : s.runstate = .run) (ha : heard s.primary a = true) :
      ExecEffect s (.setAddr c a new extra) (setAddr s new)
  | select (c a mask tail) (hrun : s.runstate = .run) (ha : heard s.primary a = true) :
      ExecEffect s (.select c a mask tail) (select s (mask.toList ++ tail.toList))
  | selectBadlen (c a data) (hrun : s.runstate = .run) (ha : heard s.primary a = true) :
      ExecEffect s (.selectBadlen c a data) (select s data)
  | execute (f) (hrun : s.runstate = .run) : ExecEffect s (.execute f) (executeFrame s f)
  | reset (cfg) : ExecEffect s (.reset cfg) (resetWith s cfg)
  | rxbyte (b) (hrun : s.runstate = .run) : ExecEffect s (.rxbyte b) (receiveByte s b)
  | rxgap (hrun : s.runstate = .run) : ExecEffect s .rxgap (receiveGap s)
  | rxerr (hrun : s.runstate = .run) : ExecEffect s .rxerr s.raiseTransportReceive
  | shutdown : ExecEffect s .shutdown (s.setRunstate .halt)
  | fatal : ExecEffect s .fatal (s.setRunstate .halt)

theorem ExecEffect.of_whenRun {s : State} {i : Instr} {f : State → State} (hi : isReset i = false)
    (h : s.runstate = .run → ExecEffect s i (f s)) : ExecEffect s i (s.whenRun f) := by
  rcases whenRun_cases s f with ⟨hrun, e⟩ | ⟨_, e⟩ <;> rw [e]
  · exact h hrun
  · exact .nothing hi

theorem ExecEffect.of_onFrame {s : State} {i : Instr} {a : Byte} {f : State → State}
    (hi : isReset i = false)
    (h : s.runstate = .run → heard s.primary a = true → ExecEffect s i (f s)) :
    ExecEffect s i (s.onFrame a f) := by
  rcases onFrame_cases s a f with ⟨hrun, ha, e⟩ | e <;> rw [e]
  · exact h hrun ha
  · exact .nothing hi

/-- Every instruction answers, with its effect. -/
theorem exec_answers_effect (i : Instr) (s : State) : ∃ t, exec i s = .next t ∧ ExecEffect s i t := by
  cases i with
  | errBadstartLead | errShortBadchecksum | errShortBadstop | errLongLengthmismatch
  | errLongShortlength | errLongBadstart2 | errLongBadchecksum | errLongBadstop | errTruncated =>
    exact ⟨_, rfl, .of_whenRun rfl (.raised rfl)⟩
  | ack | ignoreBcastNoreplyShort | ignoreBcastNoreplyLong | ignoreNotForUs | ignoreUnknown =>
    exact ⟨s, rfl, .nothing rfl⟩
  | sndNke c a => exact ⟨_, rfl, .of_onFrame rfl (.sndNke c a)⟩
  | sndNkeLong c a ci data => exact ⟨_, rfl, .of_onFrame rfl (.sndNkeLong c a ci data)⟩
  | reqUd2 c a => exact ⟨_, rfl, .of_onFrame rfl (.reqUd2 c a)⟩
  | reqUd2Long c a ci data => exact ⟨_, rfl, .of_onFrame rfl (.reqUd2Long c a ci data)⟩
  | setAddr c a new extra => exact ⟨_, rfl, .of_onFrame rfl (.setAddr c a new extra)⟩
  | select c a mask tail => exact ⟨_, rfl, .of_onFrame rfl (.select c a mask tail)⟩
  | selectBadlen c a data => exact ⟨_, rfl, .of_onFrame rfl (.selectBadlen c a data)⟩
  | ackOut | tx | verdict | setbaud => exact ⟨_, rfl, .of_whenRun rfl (.emitted rfl)⟩
  | rspOut => exact ⟨_, rfl, .of_whenRun rfl .rspOut⟩
  | reset cfg => exact ⟨_, rfl, .reset cfg⟩
  | rxbyte b => exact ⟨_, rfl, .of_whenRun rfl (.rxbyte b)⟩
  | rxgap => exact ⟨_, rfl, .of_whenRun rfl .rxgap⟩
  | rxerr => exact ⟨_, rfl, .of_whenRun rfl .rxerr⟩
  | shutdown => exact ⟨_, rfl, .shutdown⟩
  | fatal => exact ⟨_, rfl, .fatal⟩
  | checksum | checksumVerify | decode | encode | matchPrimary | matchSecondary =>
    exact ⟨_, rfl, .returned _ rfl⟩
  | execute f => exact ⟨_, rfl, .of_whenRun rfl (.execute f)⟩

/-- What an instruction leads to is one of its effects. -/
theorem exec_effect {i : Instr} {s t : State} (h : exec i s = .next t) : ExecEffect s i t := by
  obtain ⟨t', e, eff⟩ := exec_answers_effect i s
  cases e.symm.trans h
  exact eff

/-- What a step leads to: it waits, or the row of the first event has its effect. -/
theorem step_effect {s t : State} (h : step s = .next t) :
    (s.inq = [] ∧ t = s) ∨ ∃ ev rest, s.inq = ev :: rest ∧
      ExecEffect { s with inq := rest } (eventInstr ev) t := by
  cases hq : s.inq with
  | nil =>
    rw [step_of_inq_nil hq] at h
    cases h
    exact .inl ⟨rfl, rfl⟩
  | cons ev rest => exact .inr ⟨ev, rest, rfl, exec_effect (step_of_inq_cons hq ▸ h)⟩

/-! ### The invariant of a listening block (10_state.md R30, R31, R34) -/

theorem classifyShort_ne_control (buf : List Byte) (c a ci : Byte) (payload : List Byte) :
    classifyShort buf ≠ .done (.control c a ci payload) := by
  unfold classifyShort
  split_ifs <;> simp

/-- The declared length is one byte, so a Control frame's payload has at most 252 bytes. -/
theorem classifyLong_done_fits {buf : List Byte} {f : Frame} (h : classifyLong buf = .done f) :
    frameFits f = true := by
  unfold classifyLong at h
  simp only at h
  split_ifs at h
  cases h
  have hL := (byteAt buf 1).isLt
  simp only [frameFits, slice_length, maxPayload, decide_eq_true_eq]
  omega

/-- Every frame the classifier completes fits the block (00_scope.md R10). -/
theorem rxClassify_done_fits {buf : List Byte} {f : Frame} (h : rxClassify buf = .done f) :
    frameFits f = true := by
  unfold rxClassify at h
  split_ifs at h
  · cases h
    rfl
  · cases f with
    | ack => rfl
    | short => rfl
    | control c a ci payload => exact absurd h (classifyShort_ne_control buf c a ci payload)
  · exact classifyLong_done_fits h

/-- Every frame DECODE answers fits the block. -/
theorem decodeFrame_ok_fits {buf : List Byte} {f : Frame} {k : Nat}
    (h : decodeFrame buf = (.ok f, k)) : frameFits f = true := by
  rcases decodeFrame_cases buf with ⟨_, e⟩ | ⟨_, _, _, _, ⟨f', hf, e⟩ | ⟨_, _, e⟩⟩ <;>
    cases e.symm.trans h
  exact rxClassify_done_fits hf

/-- Every response a configuration is accepted with fits a frame (70_reset_and_hazards.md R243). -/
theorem respOfCfg_data_wf {rc : RespCfg} {r : Resp} (h : respOfCfg rc = some r) :
    Memory.wf maxPayload r.data = true := by
  cases rc with
  | builtin =>
    cases h
    exact memory_take_wf maxPayload Config.builtinData
  | raw b =>
    simp only [respOfCfg, respOfBlob] at h
    split at h
    · next hd =>
      split_ifs at h
      cases h
      exact decodeFrame_ok_fits hd
    · cases h
  | fields c a ci payload =>
    simp only [respOfCfg] at h
    split_ifs at h with hfit
    cases h
    exact decide_eq_true hfit

theorem resetWith_inv (s : State) (cfg : Cfg) : Inv (resetWith s cfg) := by
  rcases resetWith_cases s cfg with ⟨r, hr, e⟩ | ⟨_, e⟩ <;> rw [e]
  · obtain ⟨_, _, resp, hresp, e⟩ := regsOfCfg_some hr
    have hwf := respOfCfg_data_wf hresp
    rw [e]
    exact fun _ => ⟨rfl, rfl, hwf⟩
  · exact nofun

theorem executeFrame_inv {s : State} (f : Frame) (h : Inv s) : Inv (executeFrame s f) := by
  obtain ⟨hrx, -, hrun, -, -, -, -, -, -, -, -, -, -, hdata, ha⟩ := executeFrame_frame s f
  intro hr
  obtain ⟨hmore, hra, hwf⟩ := h (hrun ▸ hr)
  exact ⟨hrx ▸ hmore, ha hra, hdata ▸ hwf⟩

/-- Emptying RXBUF, whatever is emitted with it, keeps the invariant. -/
theorem Inv.rxbuf_nil {s : State} (h : Inv s) (outs : List Output) :
    Inv { s with rxbuf := [], outs := outs } :=
  fun hr => ⟨rfl, (h hr).2⟩

theorem receiveByte_inv {s : State} (b : Byte) (h : Inv s) : Inv (receiveByte s b) := by
  rcases receiveByte_cases s b with ⟨hmore, e⟩ | ⟨_, _, e⟩ | ⟨f, _, e⟩ <;> rw [e]
  · exact fun hr => ⟨hmore, (h hr).2⟩
  · exact h.rxbuf_nil _
  · exact executeFrame_inv f (h.rxbuf_nil _)

theorem receiveGap_inv {s : State} (h : Inv s) : Inv (receiveGap s) := by
  rcases receiveGap_cases s with ⟨_, e⟩ | ⟨_, e⟩ <;> rw [e]
  · exact h
  · exact h.rxbuf_nil _

theorem reqUd2_inv {s : State} (a : Byte) (h : Inv s) : Inv (reqUd2 s a) := by
  obtain ⟨respA, outs, hA, e⟩ := reqUd2_frame s a
  rw [e]
  intro hr
  obtain ⟨hmore, hra, hwf⟩ := h hr
  exact ⟨hmore, hA.elim (·.trans hra) id, hwf⟩

theorem sndNke_inv {s : State} (a : Byte) (h : Inv s) : Inv (sndNke s a) := by
  obtain ⟨_, _, _, e⟩ := sndNke_frame s a
  rw [e]
  exact h

theorem setAddr_inv {s : State} (new : Byte) (h : Inv s) : Inv (setAddr s new) := by
  obtain ⟨primary, respA, outs, hA, e⟩ := setAddr_frame s new
  rw [e]
  intro hr
  obtain ⟨hmore, hra, hwf⟩ := h hr
  exact ⟨hmore, hA.elim (fun hp => by rw [hp.2, hp.1, hra]) id, hwf⟩

theorem select_inv {s : State} (data : List Byte) (h : Inv s) : Inv (select s data) := by
  obtain ⟨_, _, e⟩ := select_frame s data
  rw [e]
  exact h

/-- Every instruction, in whatever state it runs, keeps the invariant. -/
theorem ExecEffect.inv {i : Instr} {s t : State} (eff : ExecEffect s i t) (h : Inv s) : Inv t := by
  cases eff with
  | nothing | returned | emitted => exact h
  | raised | rxerr => exact h.rxbuf_nil _
  | rspOut => exact fun hr => ⟨(h hr).1, rfl, (h hr).2.2⟩
  | sndNke c a | sndNkeLong c a => exact sndNke_inv a h
  | reqUd2 c a | reqUd2Long c a => exact reqUd2_inv a h
  | setAddr c a new => exact setAddr_inv new h
  | select | selectBadlen => exact select_inv _ h
  | execute f => exact executeFrame_inv f h
  | reset cfg => exact resetWith_inv s cfg
  | rxbyte b => exact receiveByte_inv b h
  | rxgap => exact receiveGap_inv h
  | shutdown | fatal => exact nofun

/-- Settles O59: the invariant is kept by every effect of an instruction, hence by the one of the event
a step takes. -/
theorem stepKeepsInvariant : Obligations.StepKeepsInvariant := by
  intro s t h hstep
  rcases step_effect hstep with ⟨_, rfl⟩ | ⟨_, rest, _, eff⟩
  · exact h
  · have hrest : Inv { s with inq := rest } := h
    exact eff.inv hrest

/-- Settles O60: the reset state listens, its buffer is empty, and its response is empty. -/
theorem resetHasInvariant : Obligations.ResetHasInvariant :=
  ⟨fun _ => ⟨rxClassify_nil, rfl, reset_memory_wf.2⟩, rfl⟩

/-- Settles O1: each value is the one `bootCfg` gives or RESET fixes (10_state.md R35). -/
theorem resetStateHasSpecValues : Obligations.ResetStateHasSpecValues :=
  ⟨rfl, rfl, rfl, rfl, rfl, rfl⟩

/-- Settles O43: a label is no delay, or a draw read through the bound. -/
theorem delaysAreBounded : Obligations.DelaysAreBounded := by
  intro d
  cases d with
  | zero => exact Nat.zero_le _
  | draw k => exact Nat.min_le_right _ _

/-! ### What two runs cannot tell apart

Every meaning is written over the named operations of `Machine/Ops.lean`. So a relation between states
that agrees on what a rule reads, and that each of these operations keeps, is kept by every step; what
the related states differ in influences nothing. -/

/-- `R` relates states that no rule tells apart: they agree in every field a rule reads, and each
operation that an event's rule is written over keeps `R`. -/
structure Indistinguishable (R : State → State → Prop) : Prop where
  primary {s t} (h : R s t) : t.primary = s.primary
  selected {s t} (h : R s t) : t.selected = s.selected
  secid {s t} (h : R s t) : t.secid = s.secid
  resp {s t} (h : R s t) : t.resp = s.resp
  rxbuf {s t} (h : R s t) : t.rxbuf = s.rxbuf
  runstate {s t} (h : R s t) : t.runstate = s.runstate
  par {s t} (h : R s t) : t.par = s.par
  inq {s t} (h : R s t) : t.inq = s.inq
  setPrimary {s t} (h : R s t) (a : Byte) : R (s.setPrimary a) (t.setPrimary a)
  setSelected {s t} (h : R s t) (b : Bool) : R (s.setSelected b) (t.setSelected b)
  setRespA {s t} (h : R s t) (a : Byte) : R (s.setRespA a) (t.setRespA a)
  pushRx {s t} (h : R s t) (b : Byte) : R (s.pushRx b) (t.pushRx b)
  clearRx {s t} (h : R s t) : R s.clearRx t.clearRx
  setRunstate {s t} (h : R s t) (r : RunState) : R (s.setRunstate r) (t.setRunstate r)
  takeEvent {s t} (h : R s t) : R s.takeEvent t.takeEvent
  emit {s t} (h : R s t) (o : Output) : R (s.emit o) (t.emit o)
  transmitDraw {s t} (h : R s t) (bytes : List Byte) :
    R (s.takeDraw.transmit (.draw s.draws) bytes) (t.takeDraw.transmit (.draw t.draws) bytes)

namespace Indistinguishable

section

variable {R : State → State → Prop} (hR : Indistinguishable R) {s t : State}

include hR

theorem sndNke (h : R s t) (a : Byte) : R (Machine.sndNke s a) (Machine.sndNke t a) := by
  have hsel := hR.setSelected h (selectedAfterNke a s.selected)
  simp only [Machine.sndNke, hR.primary h, hR.selected h, hR.par h]
  split_ifs
  · exact hR.transmitDraw hsel _
  · exact hsel

theorem sendResponse (h : R s t) : R (Machine.sendResponse s) (Machine.sendResponse t) := by
  simp only [Machine.sendResponse, State.transmit, State.setRespA_resp, hR.primary h, hR.resp h]
  exact hR.emit (hR.setRespA h _) _

theorem reqUd2 (h : R s t) (a : Byte) : R (Machine.reqUd2 s a) (Machine.reqUd2 t a) := by
  simp only [Machine.reqUd2, hR.primary h, hR.selected h]
  split_ifs
  · exact hR.sendResponse h
  · exact h

theorem setAddr (h : R s t) (new : Byte) : R (Machine.setAddr s new) (Machine.setAddr t new) := by
  simp only [Machine.setAddr, hR.selected h]
  split_ifs
  · exact hR.emit (hR.setRespA (hR.setPrimary h new) new) _
  · exact h

theorem select (h : R s t) (data : List Byte) : R (Machine.select s data) (Machine.select t data) := by
  have hsel := hR.setSelected h (selectedAfterSelect (matchesSecondary data s.secid).1)
  simp only [Machine.select, hR.secid h]
  split_ifs
  · exact hR.emit hsel _
  · exact hR.emit hsel _
  · exact hsel

theorem executeFrame (h : R s t) (f : Frame) :
    R (Machine.executeFrame s f) (Machine.executeFrame t f) := by
  cases f with
  | ack => exact h
  | short c a =>
    simp only [Machine.executeFrame, hR.primary h, hR.par h]
    split_ifs
    · exact h
    · exact h
    · exact hR.sndNke h a
    · exact hR.reqUd2 h a
    · exact h
  | control c a ci data =>
    simp only [Machine.executeFrame, hR.primary h, hR.par h]
    split_ifs
    · exact h
    · exact h
    · exact hR.sndNke h a
    · exact hR.reqUd2 h a
    · exact hR.setAddr h _
    · exact hR.select h data
    · exact h

theorem raiseFrame (h : R s t) (e : FrameError) : R (s.raiseFrame e) (t.raiseFrame e) :=
  hR.emit (hR.clearRx h) _

theorem receiveByte (h : R s t) (b : Byte) :
    R (Machine.receiveByte s b) (Machine.receiveByte t b) := by
  have hpush := hR.pushRx h b
  simp only [Machine.receiveByte, hR.rxbuf hpush]
  cases rxClassify (s.pushRx b).rxbuf with
  | more => exact hpush
  | err e => exact hR.raiseFrame hpush e
  | done f => exact hR.executeFrame (hR.emit (hR.clearRx hpush) _) f

theorem receiveGap (h : R s t) : R (Machine.receiveGap s) (Machine.receiveGap t) := by
  simp only [Machine.receiveGap, hR.rxbuf h]
  split_ifs
  · exact h
  · exact hR.raiseFrame h _

theorem whenRun (h : R s t) {f : State → State} (hf : R (f s) (f t)) :
    R (s.whenRun f) (t.whenRun f) := by
  simp only [State.whenRun, hR.runstate h]
  split_ifs
  · exact hf
  · exact h

/-- The row of an input event but RESET keeps the relation. -/
theorem exec (h : R s t) {ev : Event} (hev : isResetEvent ev = false) :
    ∃ s' t', Machine.exec (eventInstr ev) s = .next s' ∧
      Machine.exec (eventInstr ev) t = .next t' ∧ R s' t' := by
  cases ev with
  | reset cfg => cases hev
  | rx b => exact ⟨_, _, rfl, rfl, hR.whenRun h (hR.receiveByte h b)⟩
  | gap => exact ⟨_, _, rfl, rfl, hR.whenRun h (hR.receiveGap h)⟩
  | rxerr => exact ⟨_, _, rfl, rfl, hR.whenRun h (hR.emit (hR.clearRx h) _)⟩
  | shutdown => exact ⟨_, _, rfl, rfl, hR.setRunstate h .halt⟩
  | fatal => exact ⟨_, _, rfl, rfl, hR.setRunstate h .halt⟩

/-- A step that is no RESET keeps the relation. -/
theorem step {s' : State} (h : R s t) (hreset : ∀ cfg rest, s.inq ≠ .reset cfg :: rest)
    (hs : Machine.step s = .next s') : ∃ t', Machine.step t = .next t' ∧ R s' t' := by
  cases hq : s.inq with
  | nil =>
    rw [step_of_inq_nil hq] at hs
    cases hs
    exact ⟨t, step_of_inq_nil ((hR.inq h).trans hq), h⟩
  | cons ev rest =>
    have hqt := (hR.inq h).trans hq
    have hev : isResetEvent ev = false := by
      cases ev with
      | reset cfg => exact absurd hq (hreset cfg rest)
      | rx | gap | rxerr | shutdown | fatal => rfl
    obtain ⟨s'', t', es, et, hst⟩ := hR.exec (hR.takeEvent h) hev
    rw [step_of_inq_cons hq, ← State.takeEvent_of_inq_cons hq, es] at hs
    cases hs
    exact ⟨t', by rw [step_of_inq_cons hqt, ← State.takeEvent_of_inq_cons hqt, et], hst⟩

end

end Indistinguishable

/-- MANUF, MEDIUM, VERSION, DEBUG and BAUD are read by no event but RESET (10_state.md R23, R27). -/
theorem withInert_indistinguishable (manuf : BitVec 16) (medium version : Byte) (debug : Bool)
    (baud : Rate) :
    Indistinguishable fun s t => t = withInert s manuf medium version debug baud := by
  constructor <;> (rintro s _ rfl; intros; rfl)

/-- Settles O57: "differs in the inert registers only" is a relation that no event tells apart. -/
theorem inertRegistersDoNotInterfere : Obligations.InertRegistersDoNotInterfere := by
  intro s t manuf medium version debug baud hreset hs
  obtain ⟨_, ht, rfl⟩ :=
    (withInert_indistinguishable manuf medium version debug baud).step rfl hreset hs
  exact ht

theorem txBytes_append (xs ys : List Output) : txBytes (xs ++ ys) = txBytes xs ++ txBytes ys := by
  induction xs with
  | nil => rfl
  | cons x xs ih => cases x <;> simp [txBytes, ih]

/-- The states differ in the draw position and in the outputs only, which carry the same sent bytes. -/
def SameButDraws (s t : State) : Prop :=
  ∃ draws outs, t = { s with draws := draws, outs := outs } ∧ txBytes outs = txBytes s.outs

/-- The draws are read for a delay label alone (10_state.md R29). -/
theorem sameButDraws_indistinguishable : Indistinguishable SameButDraws := by
  constructor <;> rintro s _ ⟨n, os, rfl, h⟩ <;> intros
  case emit o => exact ⟨_, _, rfl, by simp [txBytes_append, h]⟩
  case transmitDraw => exact ⟨_, _, rfl, by simp [txBytes_append, h, txBytes]⟩
  case primary | selected | secid | resp | rxbuf | runstate | par | inq => rfl
  all_goals exact ⟨n, os, rfl, h⟩

/-- Settles O58: "differs in the draws only" is a relation that no event tells apart. -/
theorem drawsDoNotInterfere : Obligations.DrawsDoNotInterfere := by
  intro s t u n hreset hs hu
  have hdraws : SameButDraws s { s with draws := n } := ⟨n, s.outs, rfl, rfl⟩
  obtain ⟨_, hu', _, _, rfl, htx⟩ := sameButDraws_indistinguishable.step hdraws hreset hs
  cases hu'.symm.trans hu
  exact ⟨rfl, rfl, htx⟩

/-! ### A partial frame (10_state.md R34) -/

/-- Settles O15: a Short frame is answered by its fifth byte, a Control frame by byte `L + 6`, and `L`
is one byte; any other lead byte is answered at once. -/
theorem partialFrameIsShortAndStarted : Obligations.PartialFrameIsShortAndStarted := by
  intro buf h
  by_cases hne : buf = []
  · simp [hne]
  by_cases hack : byteAt buf 0 = ackByte
  · rw [rxClassify_ack hne hack] at h
    cases h
  by_cases hshort : byteAt buf 0 = startShort
  · rw [rxClassify_short hne hshort] at h
    refine ⟨?_, fun _ => .inl hshort⟩
    by_contra hlen
    unfold classifyShort at h
    split_ifs at h
    omega
  by_cases hlong : byteAt buf 0 = startLong
  · rw [rxClassify_long hne hlong] at h
    obtain ⟨-, -, hlen⟩ := classifyLong_more_inv h
    have hL := (byteAt buf 1).isLt
    exact ⟨by omega, fun _ => .inr hlong⟩
  · rw [rxClassify_other hne hack hshort hlong] at h
    cases h

/-! ### HALT (10_state.md R28) -/

/-- Settles O28: every effect but those of RESET, SHUTDOWN, FATAL and the pure functions runs under the
guard that the block listens. -/
theorem onlyResetLeavesHalt : Obligations.OnlyResetLeavesHalt := by
  intro i s t hhalt hi h
  have hrun : s.runstate ≠ .run := by simp [hhalt]
  cases exec_effect h with
  | nothing | returned => rfl
  | shutdown | fatal => rw [State.setRunstate, ← hhalt]
  | reset => cases hi
  | _ => contradiction

/-! ### The read-only registers (10_state.md R36) -/

/-- `s` with everything that an instruction but RESET may write set to one value. -/
def State.maskWritable (s : State) : State :=
  { s with
    primary := 0#8, selected := false, resp := { s.resp with a := 0#8 }, rxbuf := []
    runstate := .run, outs := [], draws := 0, ret := none }

theorem maskWritable_executeFrame (s : State) (f : Frame) :
    (executeFrame s f).maskWritable = s.maskWritable := by
  obtain ⟨-, hinq, -, hpar, -, hsecid, hmanuf, hmedium, hversion, hbaud, hdebug, hc, hci, hdata, -⟩ :=
    executeFrame_frame s f
  simp only [State.maskWritable, hinq, hpar, hsecid, hmanuf, hmedium, hversion, hbaud, hdebug, hc,
    hci, hdata]

theorem maskWritable_receiveByte (s : State) (b : Byte) :
    (receiveByte s b).maskWritable = s.maskWritable := by
  rcases receiveByte_cases s b with ⟨_, e⟩ | ⟨_, _, e⟩ | ⟨f, _, e⟩ <;> rw [e]
  · rfl
  · rfl
  · exact maskWritable_executeFrame _ f

theorem maskWritable_receiveGap (s : State) : (receiveGap s).maskWritable = s.maskWritable := by
  rcases receiveGap_cases s with ⟨_, e⟩ | ⟨_, e⟩ <;> rw [e]
  rfl

theorem maskWritable_sndNke (s : State) (a : Byte) :
    (sndNke s a).maskWritable = s.maskWritable := by
  obtain ⟨_, _, _, e⟩ := sndNke_frame s a
  rw [e]
  rfl

theorem maskWritable_reqUd2 (s : State) (a : Byte) :
    (reqUd2 s a).maskWritable = s.maskWritable := by
  obtain ⟨_, _, _, e⟩ := reqUd2_frame s a
  rw [e]
  rfl

theorem maskWritable_setAddr (s : State) (new : Byte) :
    (setAddr s new).maskWritable = s.maskWritable := by
  obtain ⟨_, _, _, _, e⟩ := setAddr_frame s new
  rw [e]
  rfl

theorem maskWritable_select (s : State) (data : List Byte) :
    (select s data).maskWritable = s.maskWritable := by
  obtain ⟨_, _, e⟩ := select_frame s data
  rw [e]
  rfl

/-- No instruction but RESET writes a read-only register, the parameters or the queue. -/
theorem ExecEffect.maskWritable {i : Instr} {s t : State} (eff : ExecEffect s i t)
    (hi : isReset i = false) : t.maskWritable = s.maskWritable := by
  cases eff with
  | nothing | returned | raised | emitted | rspOut | rxerr | shutdown | fatal => rfl
  | sndNke c a | sndNkeLong c a => exact maskWritable_sndNke s a
  | reqUd2 c a | reqUd2Long c a => exact maskWritable_reqUd2 s a
  | setAddr c a new => exact maskWritable_setAddr s new
  | select | selectBadlen => exact maskWritable_select s _
  | execute f => exact maskWritable_executeFrame s f
  | reset => cases hi
  | rxbyte b => exact maskWritable_receiveByte s b
  | rxgap => exact maskWritable_receiveGap s

theorem eq_reset_of_isReset {i : Instr} (h : isReset i = true) : ∃ cfg, i = .reset cfg := by
  cases i with
  | reset cfg => exact ⟨cfg, rfl⟩
  | _ => cases h

theorem exec_reset (s : State) (cfg : Cfg) : exec (.reset cfg) s = .next (resetWith s cfg) := rfl

theorem resetWith_par_inq (s : State) (cfg : Cfg) :
    (resetWith s cfg).par = s.par ∧ (resetWith s cfg).inq = s.inq := by
  rcases resetWith_cases s cfg with ⟨_, _, e⟩ | ⟨_, e⟩ <;> rw [e] <;> exact ⟨rfl, rfl⟩

/-- Settles O50: RESET keeps the parameters and the queue, and any other instruction keeps them and the
registers of R36. -/
theorem readOnlyRegistersKept : Obligations.ReadOnlyRegistersKept := by
  intro i s t h
  cases hi : isReset i with
  | true =>
    obtain ⟨cfg, rfl⟩ := eq_reset_of_isReset hi
    rw [exec_reset] at h
    cases h
    exact ⟨(resetWith_par_inq s cfg).1, (resetWith_par_inq s cfg).2, nofun⟩
  | false =>
    have hm := (exec_effect h).maskWritable hi
    have hdata : t.resp.data = s.resp.data := congrArg (fun u => u.resp.data) hm
    exact ⟨congrArg (fun u => u.par) hm, congrArg (fun u => u.inq) hm, fun _ =>
      ⟨congrArg (fun u => u.secid) hm, congrArg (fun u => u.manuf) hm,
        congrArg (fun u => u.medium) hm, congrArg (fun u => u.version) hm,
        congrArg (fun u => u.resp.c) hm, congrArg (fun u => u.resp.ci) hm,
        congrArg List.length hdata, fun k => congrArg (memRead · k) hdata,
        congrArg (fun u => u.baud) hm, congrArg (fun u => u.debug) hm⟩⟩

/-! ### What each instruction leaves unchanged (10_state.md R36) -/

/-- Settles O51: each effect writes the registers of its row only. -/
theorem instructionFrames : Obligations.InstructionFrames := by
  intro i s t h hi
  cases exec_effect h with
  | nothing | emitted =>
    exact ⟨rfl, fun _ => rfl, fun _ => rfl, fun _ => rfl, fun _ _ => rfl, fun _ => rfl, fun _ => rfl⟩
  | returned _ hf =>
    cases i with
    | checksum | checksumVerify | decode | encode | matchPrimary | matchSecondary => simp
    | _ => cases hf
  | raised he =>
    exact ⟨rfl, fun _ => rfl, fun _ => rfl, fun _ => rfl, fun hn => absurd (hn.symm.trans he) nofun,
      fun _ => rfl, fun _ => rfl⟩
  | rspOut => simp [sendResponse_eq]
  | sndNke _ a | sndNkeLong _ a =>
    obtain ⟨_, _, _, e⟩ := sndNke_frame s a
    simp [e]
  | reqUd2 _ a | reqUd2Long _ a =>
    obtain ⟨_, _, _, e⟩ := reqUd2_frame s a
    simp [e]
  | setAddr _ _ new =>
    obtain ⟨_, _, _, _, e⟩ := setAddr_frame s new
    simp [e]
  | select _ _ mask tail =>
    obtain ⟨_, _, e⟩ := select_frame s (mask.toList ++ tail.toList)
    simp [e]
  | selectBadlen _ _ data =>
    obtain ⟨_, _, e⟩ := select_frame s data
    simp [e]
  | execute | reset | rxbyte | rxgap | rxerr | shutdown | fatal => exact False.elim hi

/-! ### PRIMARY (10_state.md R21) -/

/-- A command that changes PRIMARY is a set-address command, executed while Selected. -/
theorem executeFrame_primary_ne {s : State} {f : Frame}
    (h : (executeFrame s f).primary ≠ s.primary) :
    s.selected = true ∧ ∃ c a payload, f = .control c a s.par.ciDataSend payload ∧
      heard s.primary a = true ∧ codeOf s.par c = s.par.cSndUd ∧ isSetAddr payload = true ∧
      (executeFrame s f).primary = newAddress payload := by
  rcases executeFrame_cases s f with e | ⟨_, a, _, _, _, e⟩ | ⟨_, a, _, _, _, e⟩ |
    ⟨c, a, d, hf, ha, hc, hd, e⟩ | ⟨_, _, d, _, _, _, e⟩ <;> rw [e] at h ⊢
  · exact absurd rfl h
  · obtain ⟨_, _, _, e⟩ := sndNke_frame s a
    exact absurd (by rw [e]) h
  · obtain ⟨_, _, _, e⟩ := reqUd2_frame s a
    exact absurd (by rw [e]) h
  · rcases setAddr_cases s (newAddress d) with ⟨hsel, e⟩ | ⟨_, e⟩ <;> rw [e] at h ⊢
    · exact ⟨hsel, c, a, d, hf, ha, hc, hd, rfl⟩
    · exact absurd rfl h
  · obtain ⟨_, _, e⟩ := select_frame s d
    exact absurd (by rw [e]) h

/-- A received byte that changes PRIMARY completes a set-address command, received while Selected. -/
theorem receiveByte_primary_ne {s : State} {b : Byte}
    (h : (receiveByte s b).primary ≠ s.primary) :
    s.selected = true ∧ ∃ c a payload,
      rxClassify (s.rxbuf ++ [b]) = .done (.control c a s.par.ciDataSend payload) ∧
      heard s.primary a = true ∧ codeOf s.par c = s.par.cSndUd ∧ isSetAddr payload = true ∧
      (receiveByte s b).primary = newAddress payload := by
  rcases receiveByte_cases s b with ⟨_, e⟩ | ⟨_, _, e⟩ | ⟨f, hf, e⟩ <;> rw [e] at h ⊢
  · exact absurd rfl h
  · exact absurd rfl h
  · obtain ⟨hsel, c, a, payload, hcontrol, hcmd⟩ := executeFrame_primary_ne h
    exact ⟨hsel, c, a, payload, hf.trans (congrArg _ hcontrol), hcmd⟩

/-- Settles O53: of the effects an input event can have, only that of a received byte touches PRIMARY. -/
theorem primaryChangesOnlyByCommand : Obligations.PrimaryChangesOnlyByCommand := by
  intro s t hstep hreset hne
  rcases step_effect hstep with ⟨_, rfl⟩ | ⟨ev, rest, hq, eff⟩
  · exact absurd rfl hne
  cases ev with
  | reset cfg => exact absurd hq (hreset cfg rest)
  | rx b =>
    cases eff with
    | rxbyte _ hrun =>
      obtain ⟨hsel, c, a, payload, hdone, hcmd⟩ := receiveByte_primary_ne hne
      exact ⟨hsel, c, a, payload, ⟨hrun, b, rest, hq, hdone⟩, hcmd⟩
    | _ => exact absurd rfl hne
  | gap =>
    cases eff with
    | rxgap =>
      rcases receiveGap_cases { s with inq := rest } with ⟨_, e⟩ | ⟨_, e⟩ <;>
        exact absurd (by rw [e]) hne
    | _ => exact absurd rfl hne
  | rxerr | shutdown | fatal => cases eff <;> exact absurd rfl hne

end Sys2Proof.Machine

namespace Sys2Proof

open Machine

/-! ### The command map: the row of a frame, and the frame of a row (30_encoding.md R91) -/

theorem heard_iff {primary a : Byte} :
    heard primary a = true ↔ a ≠ addrBcastNoreply ∧ matchesPrimary a primary = true := by
  rw [heard, Bool.and_eq_true, bne_iff_ne]

theorem addressedBy_iff {q : Byte → Bool} {f : Frame} :
    addressedBy q f = true ↔ ∃ a, frameAddress f = some a ∧ a ≠ addrBcastNoreply ∧ q a = true := by
  unfold addressedBy
  split <;> simp_all

/-- Of the constraints of 00_scope.md R9, those the command map needs: the codes are told apart. -/
theorem Params.wf_distinct {p : Params} (h : p.wf = true) :
    p.cSndNke ≠ p.cReqUd2 ∧ p.cSndNke ≠ p.cSndUd ∧ p.cReqUd2 ≠ p.cSndUd ∧
      p.ciDataSend ≠ p.ciSelectSlave := by
  simp only [Params.wf, Bool.and_eq_true, bne_iff_ne] at h
  obtain ⟨⟨⟨⟨⟨⟨h1, h2⟩, h3⟩, -⟩, -⟩, -⟩, h4⟩ := h
  exact ⟨h1, h2, h3, h4⟩

/-- No command row takes a Short frame with a code other than SND_NKE and REQ_UD2. -/
theorem isUnknown_short_iff {p : Params} {c a : Byte} :
    isUnknown p (.short c a) = true ↔ codeOf p c ≠ p.cSndNke ∧ codeOf p c ≠ p.cReqUd2 := by
  simp [isUnknown]

/-- The frames no command row takes are those for which each test of the command map fails. -/
theorem isUnknown_control_iff {p : Params} {c a ci : Byte} {data : List Byte} :
    isUnknown p (.control c a ci data) = true ↔
      codeOf p c ≠ p.cSndNke ∧ codeOf p c ≠ p.cReqUd2 ∧
      ¬(codeOf p c = p.cSndUd ∧ ci = p.ciDataSend ∧ isSetAddr data = true) ∧
      ¬(codeOf p c = p.cSndUd ∧ ci = p.ciSelectSlave) := by
  simp only [isUnknown, Bool.and_eq_true, bne_iff_ne, beq_iff_eq, Bool.not_eq_true', and_assoc,
    ← Bool.not_eq_true]

theorem ignoreNotForUs_wf_iff {p : Params} {primary : Byte} {f : Frame} :
    (Instr.ignoreNotForUs f).wf p primary = true ↔ frameFits f = true ∧
      ∃ a, frameAddress f = some a ∧ a ≠ addrBcastNoreply ∧ matchesPrimary a primary = false := by
  simp only [Instr.wf, Bool.and_eq_true, addressedBy_iff, Bool.not_eq_true']

theorem ignoreUnknown_wf_iff {p : Params} {primary : Byte} {f : Frame} :
    (Instr.ignoreUnknown f).wf p primary = true ↔ frameFits f = true ∧
      (∃ a, frameAddress f = some a ∧ heard primary a = true) ∧ isUnknown p f = true := by
  simp only [Instr.wf, Bool.and_eq_true, addressedBy_iff, heard_iff, and_assoc]

/-- A set-address payload is `01 7A`, the new address, and whatever follows (30_encoding.md R89). -/
theorem eq_of_isSetAddr {data : List Byte} (h : isSetAddr data = true) :
    data = setaddrB0 :: setaddrB1 :: newAddress data :: data.drop 3 := by
  match data with
  | [] | [_] | [_, _] => simp [isSetAddr] at h
  | b0 :: b1 :: b2 :: rest =>
    simp only [isSetAddr, Bool.and_eq_true, beq_iff_eq, byteAt_cons_zero, byteAt_cons_succ] at h
    obtain ⟨⟨-, h0⟩, h1⟩ := h
    simp [newAddress, h0, h1]

theorem length_of_isSetAddr {data : List Byte} (h : isSetAddr data = true) : 3 ≤ data.length := by
  simp only [isSetAddr, Bool.and_eq_true, decide_eq_true_eq] at h
  exact h.1.1

theorem isSetAddr_cons (new : Byte) (extra : List Byte) :
    isSetAddr (setaddrB0 :: setaddrB1 :: new :: extra) = true := by
  simp [isSetAddr]

/-- Eight bytes of selection data are the mask and the tail (30_encoding.md R90). -/
theorem selMask_append_selTail {data : List Byte} (h : data.length = selDataLen) :
    (selMask data).toList ++ (selTail data).toList = data := by
  match data with
  | [_, _, _, _, _, _, _, _] => rfl

/-- The row of a frame to another address (30_encoding.md R91, line 3). -/
theorem commandRow_of_not_forUs {p : Params} {primary a : Byte} {f : Frame}
    (hf : frameAddress f = some a) (hb : a ≠ addrBcastNoreply)
    (hm : matchesPrimary a primary = false) : commandRow p primary f = .ignoreNotForUs f := by
  cases f with
  | ack => cases hf
  | short c => cases hf; simp [commandRow, shortRow, hb, hm]
  | control c => cases hf; simp [commandRow, longRow, hb, hm]

/-- The row of a frame that the block does not act on (30_encoding.md R91, lines 2 and 3). -/
theorem commandRow_unheard_cases (p : Params) {primary a : Byte} {f : Frame}
    (hf : frameAddress f = some a) (h : heard primary a = false) :
    (∃ c, f = .short c addrBcastNoreply ∧
      commandRow p primary f = .ignoreBcastNoreplyShort c) ∨
    (∃ c ci data, f = .control c addrBcastNoreply ci data ∧
      commandRow p primary f = .ignoreBcastNoreplyLong c ci data) ∨
    (a ≠ addrBcastNoreply ∧ matchesPrimary a primary = false ∧
      commandRow p primary f = .ignoreNotForUs f) := by
  by_cases hb : a = addrBcastNoreply
  · subst hb
    cases f with
    | ack => cases hf
    | short c => cases hf; exact .inl ⟨c, rfl, rfl⟩
    | control c _ ci data => cases hf; exact .inr (.inl ⟨c, ci, data, rfl, rfl⟩)
  · have hm : matchesPrimary a primary = false := by simpa [heard, hb] using h
    exact .inr (.inr ⟨hb, hm, commandRow_of_not_forUs hf hb hm⟩)

/-- The row of a Short frame that the block acts on. -/
theorem shortRow_of_heard {p : Params} {primary c a : Byte} (h : heard primary a = true) :
    shortRow p primary c a =
      if codeOf p c = p.cSndNke then .sndNke c a
      else if codeOf p c = p.cReqUd2 then .reqUd2 c a
      else .ignoreUnknown (.short c a) := by
  obtain ⟨hb, hm⟩ := heard_iff.mp h
  simp [shortRow, hb, hm]

/-- The row of a Control frame that the block acts on. -/
theorem longRow_of_heard {p : Params} {primary c a ci : Byte} {data : List Byte}
    (h : heard primary a = true) :
    longRow p primary c a ci data =
      if codeOf p c = p.cSndNke then .sndNkeLong c a ci data
      else if codeOf p c = p.cReqUd2 then .reqUd2Long c a ci data
      else if codeOf p c = p.cSndUd ∧ ci = p.ciDataSend ∧ isSetAddr data then
        .setAddr c a (newAddress data) (data.drop 3)
      else if codeOf p c = p.cSndUd ∧ ci = p.ciSelectSlave then
        if data.length = selDataLen then .select c a (selMask data) (selTail data)
        else .selectBadlen c a data
      else .ignoreUnknown (.control c a ci data) := by
  obtain ⟨hb, hm⟩ := heard_iff.mp h
  simp [longRow, hb, hm]

/-- The row of a Control frame with code SND_UD that the block acts on: the CI decides. -/
theorem longRow_of_sndUd {p : Params} {primary c a ci : Byte} {data : List Byte} (hp : p.wf = true)
    (h : heard primary a = true) (hc : codeOf p c = p.cSndUd) :
    longRow p primary c a ci data =
      if ci = p.ciDataSend ∧ isSetAddr data then .setAddr c a (newAddress data) (data.drop 3)
      else if ci = p.ciSelectSlave then
        if data.length = selDataLen then .select c a (selMask data) (selTail data)
        else .selectBadlen c a data
      else .ignoreUnknown (.control c a ci data) := by
  obtain ⟨-, hnu, hru, -⟩ := Params.wf_distinct hp
  rw [longRow_of_heard h, if_neg (by rw [hc]; exact hnu.symm), if_neg (by rw [hc]; exact hru.symm)]
  simp only [hc, true_and]

/-- A well-formed frame row stands for a frame that fits, and is the row of that frame. -/
theorem commandRow_of_frame {p : Params} {primary : Byte} {i : Instr} {f : Frame}
    (hp : p.wf = true) (hi : i.wf p primary = true) (hf : i.frame? p = some f) :
    frameFits f = true ∧ commandRow p primary f = i := by
  obtain ⟨hnr, -, -, hci⟩ := Params.wf_distinct hp
  cases i with
  | ack => cases hf; exact ⟨rfl, rfl⟩
  | ignoreBcastNoreplyShort c =>
    cases hf
    exact ⟨rfl, by simp [commandRow, shortRow]⟩
  | ignoreBcastNoreplyLong c ci data =>
    cases hf
    exact ⟨hi, by simp [commandRow, longRow]⟩
  | ignoreNotForUs g =>
    cases hf
    obtain ⟨hfit, a, ha, hb, hm⟩ := ignoreNotForUs_wf_iff.mp hi
    exact ⟨hfit, commandRow_of_not_forUs ha hb hm⟩
  | sndNke c a =>
    cases hf
    simp only [Instr.wf, Bool.and_eq_true, beq_iff_eq] at hi
    obtain ⟨ha, hc⟩ := hi
    exact ⟨rfl, by rw [commandRow, shortRow_of_heard ha, if_pos hc]⟩
  | sndNkeLong c a ci data =>
    cases hf
    simp only [Instr.wf, Bool.and_eq_true, beq_iff_eq] at hi
    obtain ⟨⟨ha, hc⟩, hfit⟩ := hi
    exact ⟨hfit, by rw [commandRow, longRow_of_heard ha, if_pos hc]⟩
  | reqUd2 c a =>
    cases hf
    simp only [Instr.wf, Bool.and_eq_true, beq_iff_eq] at hi
    obtain ⟨ha, hc⟩ := hi
    exact ⟨rfl, by rw [commandRow, shortRow_of_heard ha, hc, if_neg hnr.symm, if_pos rfl]⟩
  | reqUd2Long c a ci data =>
    cases hf
    simp only [Instr.wf, Bool.and_eq_true, beq_iff_eq] at hi
    obtain ⟨⟨ha, hc⟩, hfit⟩ := hi
    exact ⟨hfit, by rw [commandRow, longRow_of_heard ha, hc, if_neg hnr.symm, if_pos rfl]⟩
  | setAddr c a new extra =>
    cases hf
    simp only [Instr.wf, Bool.and_eq_true, beq_iff_eq, decide_eq_true_eq] at hi
    obtain ⟨⟨ha, hc⟩, hlen⟩ := hi
    exact ⟨decide_eq_true (by simp only [List.length_cons]; omega), by
      rw [commandRow, longRow_of_sndUd hp ha hc, if_pos ⟨rfl, isSetAddr_cons new extra⟩]; rfl⟩
  | select c a mask tail =>
    cases hf
    simp only [Instr.wf, Bool.and_eq_true, beq_iff_eq] at hi
    obtain ⟨ha, hc⟩ := hi
    exact ⟨rfl, by
      rw [commandRow, longRow_of_sndUd hp ha hc, if_neg fun h => hci h.1.symm, if_pos rfl]; rfl⟩
  | selectBadlen c a data =>
    cases hf
    simp only [Instr.wf, Bool.and_eq_true, beq_iff_eq, bne_iff_ne] at hi
    obtain ⟨⟨⟨ha, hc⟩, hfit⟩, hlen⟩ := hi
    exact ⟨hfit, by
      rw [commandRow, longRow_of_sndUd hp ha hc, if_neg fun h => hci h.1.symm, if_pos rfl,
        if_neg hlen]⟩
  | ignoreUnknown g =>
    cases hf
    obtain ⟨hfit, ⟨a, hfa, ha⟩, hu⟩ := ignoreUnknown_wf_iff.mp hi
    refine ⟨hfit, ?_⟩
    cases f with
    | ack => cases hfa
    | short c =>
      cases hfa
      obtain ⟨hn, hr⟩ := isUnknown_short_iff.mp hu
      rw [commandRow, shortRow_of_heard ha, if_neg hn, if_neg hr]
    | control c =>
      cases hfa
      obtain ⟨hn, hr, hset, hsel⟩ := isUnknown_control_iff.mp hu
      rw [commandRow, longRow_of_heard ha, if_neg hn, if_neg hr, if_neg hset, if_neg hsel]
  | _ => cases hf

/-- The row of a frame that the block does not act on is well-formed and stands for that frame. -/
theorem commandRow_wf_frame_of_unheard (p : Params) {primary a : Byte} {f : Frame}
    (hfit : frameFits f = true) (hf : frameAddress f = some a) (h : heard primary a = false) :
    (commandRow p primary f).wf p primary = true ∧ (commandRow p primary f).frame? p = some f := by
  rcases commandRow_unheard_cases p hf h with
    ⟨_, rfl, e⟩ | ⟨_, _, _, rfl, e⟩ | ⟨hb, hm, e⟩ <;> rw [e]
  · exact ⟨rfl, rfl⟩
  · exact ⟨hfit, rfl⟩
  · exact ⟨ignoreNotForUs_wf_iff.mpr ⟨hfit, a, hf, hb, hm⟩, rfl⟩

/-- The row of a frame that fits is well-formed and stands for that frame. -/
theorem commandRow_wf_frame (p : Params) (primary : Byte) {f : Frame} (hfit : frameFits f = true) :
    (commandRow p primary f).wf p primary = true ∧ (commandRow p primary f).frame? p = some f := by
  cases f with
  | ack => exact ⟨rfl, rfl⟩
  | short c a =>
    cases ha : heard primary a with
    | false => exact commandRow_wf_frame_of_unheard p hfit rfl ha
    | true =>
      rw [commandRow, shortRow_of_heard ha]
      split_ifs with hn hr
      · exact ⟨by simp [Instr.wf, ha, hn], rfl⟩
      · exact ⟨by simp [Instr.wf, ha, hr], rfl⟩
      · exact ⟨ignoreUnknown_wf_iff.mpr ⟨hfit, ⟨a, rfl, ha⟩, isUnknown_short_iff.mpr ⟨hn, hr⟩⟩, rfl⟩
  | control c a ci data =>
    cases ha : heard primary a with
    | false => exact commandRow_wf_frame_of_unheard p hfit rfl ha
    | true =>
      have hpay : payloadFits data = true := hfit
      rw [commandRow, longRow_of_heard ha]
      split_ifs with hn hr hset hsel hlen
      · exact ⟨by simp [Instr.wf, ha, hn, hpay], rfl⟩
      · exact ⟨by simp [Instr.wf, ha, hr, hpay], rfl⟩
      · obtain ⟨hc, rfl, hd⟩ := hset
        have hlen : 3 + (data.length - 3) ≤ maxPayload := by
          rw [Nat.add_sub_cancel' (length_of_isSetAddr hd)]
          exact of_decide_eq_true hfit
        exact ⟨by simp [Instr.wf, ha, hc, hlen], by rw [Instr.frame?, ← eq_of_isSetAddr hd]⟩
      · obtain ⟨hc, rfl⟩ := hsel
        exact ⟨by simp [Instr.wf, ha, hc], by rw [Instr.frame?, selMask_append_selTail hlen]⟩
      · obtain ⟨hc, rfl⟩ := hsel
        exact ⟨by simp [Instr.wf, ha, hc, hpay, hlen], rfl⟩
      · exact ⟨ignoreUnknown_wf_iff.mpr
          ⟨hfit, ⟨a, rfl, ha⟩, isUnknown_control_iff.mpr ⟨hn, hr, hset, hsel⟩⟩, rfl⟩

/-! ### EXECUTE and the rows of the command map (30_encoding.md R91, 42_slave_commands.md R155) -/

/-- A command that changes nothing is dropped in HALT and ignored in RUN alike. -/
theorem exec_eq_of_ignored {s : State} {f : Frame} {i : Instr} (hi : exec i s = .next s)
    (hf : executeFrame s f = s) : exec (.execute f) s = exec i s := by
  rw [hi, show exec (.execute f) s = .next (s.whenRun fun s => executeFrame s f) from rfl,
    State.whenRun, hf, ite_self]

/-- The address test of a command row passes for a frame the block acts on. -/
theorem exec_eq_of_heard {s : State} {f : Frame} {i : Instr} {a : Byte} {command : State → State}
    (hi : exec i s = .next (s.onFrame a command)) (ha : heard s.primary a = true)
    (hf : executeFrame s f = command s) : exec (.execute f) s = exec i s := by
  rw [hi, show exec (.execute f) s = .next (s.whenRun fun s => executeFrame s f) from rfl,
    State.onFrame, State.whenRun, State.whenRun, hf, if_pos ha]

/-- A frame to 255 or to another address has no command. -/
theorem executeFrame_of_unheard {s : State} {f : Frame} {a : Byte} (hf : frameAddress f = some a)
    (h : heard s.primary a = false) : executeFrame s f = s := by
  have h' : a ≠ addrBcastNoreply → matchesPrimary a s.primary = false := by
    simpa [heard] using h
  cases f with
  | ack => cases hf
  | short c => cases hf; simp +contextual [executeFrame, State.ignore, h']
  | control c => cases hf; simp +contextual [executeFrame, State.ignore, h']

/-- Nor has its row. -/
theorem exec_commandRow_of_unheard {s : State} {f : Frame} {a : Byte}
    (hf : frameAddress f = some a) (h : heard s.primary a = false) :
    exec (commandRow s.par s.primary f) s = .next s := by
  rcases commandRow_unheard_cases s.par hf h with ⟨_, _, e⟩ | ⟨_, _, _, _, e⟩ | ⟨_, _, e⟩ <;>
    rw [e] <;> rfl

/-- The command of a Short frame that the block acts on. -/
theorem executeFrame_short_of_heard {s : State} {c a : Byte} (h : heard s.primary a = true) :
    executeFrame s (.short c a) =
      if codeOf s.par c = s.par.cSndNke then sndNke s a
      else if codeOf s.par c = s.par.cReqUd2 then reqUd2 s a
      else s := by
  obtain ⟨hb, hm⟩ := heard_iff.mp h
  simp [executeFrame, hb, hm, State.ignore]

/-- The command of a Control frame that the block acts on. -/
theorem executeFrame_control_of_heard {s : State} {c a ci : Byte} {data : List Byte}
    (h : heard s.primary a = true) :
    executeFrame s (.control c a ci data) =
      if codeOf s.par c = s.par.cSndNke then sndNke s a
      else if codeOf s.par c = s.par.cReqUd2 then reqUd2 s a
      else if codeOf s.par c = s.par.cSndUd ∧ ci = s.par.ciDataSend ∧ isSetAddr data then
        setAddr s (newAddress data)
      else if codeOf s.par c = s.par.cSndUd ∧ ci = s.par.ciSelectSlave then select s data
      else s := by
  obtain ⟨hb, hm⟩ := heard_iff.mp h
  simp [executeFrame, hb, hm, State.ignore]

/-- Settles O38: the command map and `executeFrame` make the same tests in the same order, and the
row each test selects has that test's command. -/
theorem executeIsTheCommandRow : Obligations.ExecuteIsTheCommandRow := by
  intro s f
  cases f with
  | ack => exact exec_eq_of_ignored rfl rfl
  | short c a =>
    cases ha : heard s.primary a with
    | false =>
      exact exec_eq_of_ignored (exec_commandRow_of_unheard rfl ha) (executeFrame_of_unheard rfl ha)
    | true =>
      have hx := executeFrame_short_of_heard (c := c) ha
      rw [commandRow, shortRow_of_heard ha]
      split_ifs at hx ⊢
      · exact exec_eq_of_heard rfl ha hx
      · exact exec_eq_of_heard rfl ha hx
      · exact exec_eq_of_ignored rfl hx
  | control c a ci data =>
    cases ha : heard s.primary a with
    | false =>
      exact exec_eq_of_ignored (exec_commandRow_of_unheard rfl ha) (executeFrame_of_unheard rfl ha)
    | true =>
      have hx := executeFrame_control_of_heard (c := c) (ci := ci) (data := data) ha
      rw [commandRow, longRow_of_heard ha]
      split_ifs at hx ⊢ with hn hr hset hsel hlen
      · exact exec_eq_of_heard rfl ha hx
      · exact exec_eq_of_heard rfl ha hx
      · exact exec_eq_of_heard rfl ha hx
      · exact exec_eq_of_heard rfl ha (by rw [hx, selMask_append_selTail hlen])
      · exact exec_eq_of_heard rfl ha hx
      · exact exec_eq_of_ignored rfl hx

/-! ### The words of the codec: the buffers that have an answer no shorter prefix has -/

/-- The shapes of a frame and of a rejection (30_encoding.md R80 to R83, R92), each up to the byte
that decides it. Checksum and stop bytes are free: they decide the answer, not where it is given. -/
inductive CodecWord : List Byte → Prop
  | ack : CodecWord [ackByte]
  | lead (x : Byte) (hack : x ≠ ackByte) (hshort : x ≠ startShort) (hlong : x ≠ startLong) :
      CodecWord [x]
  | short (c a x z : Byte) : CodecWord [startShort, c, a, x, z]
  | lengths (l1 l2 : Byte) (h : l1 ≠ l2 ∨ l1.toNat < 3) : CodecWord [startLong, l1, l2]
  | start2 (l x : Byte) (hl : 3 ≤ l.toNat) (hx : x ≠ startLong) : CodecWord [startLong, l, l, x]
  | long (l c a ci x z : Byte) (payload : List Byte) (hl : l.toNat = 3 + payload.length) :
      CodecWord (longBytes l c a ci x z payload)

theorem CodecWord.ne_nil {w : List Byte} (h : CodecWord w) : w ≠ [] := by
  cases h <;> exact List.cons_ne_nil _ _

theorem rxClassify_startShort (bs : List Byte) :
    rxClassify (startShort :: bs) = classifyShort (startShort :: bs) :=
  rxClassify_short (List.cons_ne_nil _ _) rfl

theorem rxClassify_startLong (bs : List Byte) :
    rxClassify (startLong :: bs) = classifyLong (startLong :: bs) :=
  rxClassify_long (List.cons_ne_nil _ _) rfl

/-- The answer on a Short frame: checksum before stop (40_frame_codec.md R115). -/
theorem rxClassify_shortBytes (c a x z : Byte) :
    rxClassify [startShort, c, a, x, z] =
      if x ≠ sum8 [c, a] then .err .badChecksum
      else if z ≠ stopByte then .err .badStop
      else .done (.short c a) :=
  rxClassify_startShort _

/-- The answer on unequal or short lengths (R117, R118). -/
theorem rxClassify_lengths {l1 l2 : Byte} (h : l1 ≠ l2 ∨ l1.toNat < 3) :
    rxClassify [startLong, l1, l2] = .err .lengthMismatch := by
  rw [rxClassify_startLong]
  rcases h with h | h <;> simp [classifyLong, h]

/-- The answer on a wrong second start byte (R119). -/
theorem rxClassify_start2 {l x : Byte} (hl : 3 ≤ l.toNat) (hx : x ≠ startLong) :
    rxClassify [startLong, l, l, x] = .err .badStart := by
  rw [rxClassify_startLong]
  simp [classifyLong, hx, Nat.not_lt.mpr hl]

/-- Before its last byte a word has no answer. -/
theorem CodecWord.prefix_more {w : List Byte} (h : CodecWord w) :
    rxClassify (w.take (w.length - 1)) = .more := by
  cases h with
  | ack => rfl
  | lead => rfl
  | short c a x => exact (rxClassify_startShort [c, a, x]).trans (classifyShort_more (by simp))
  | lengths l1 l2 => exact rxClassify_startLong [l1]
  | start2 l x hl =>
    exact (rxClassify_startLong [l, l]).trans
      (classifyLong_more (fun _ => ⟨rfl, hl⟩) (by simp) (by simp))
  | long l c a ci x z payload hl =>
    exact rxClassify_longBytes_take l c a ci x z payload hl _ (by simp; omega)

/-- DECODE accounts for the whole of a word. -/
theorem CodecWord.decodeFrame_err {w : List Byte} {e : FrameError} (h : CodecWord w)
    (he : rxClassify w = .err e) : decodeFrame w = (.err e, w.length) :=
  (decodeFrame_stop (List.length_pos_iff.mpr h.ne_nil) le_rfl h.prefix_more).2 e
    (by rwa [List.take_length])

/-- A buffer is the list of its bytes. -/
theorem eq_map_byteAt (w : List Byte) : w = (List.range w.length).map (byteAt w) := by
  refine List.ext_getElem (by simp) fun i hi _ => ?_
  simp [byteAt, hi]

/-- A Control buffer of `L + 6` bytes, by its parts. -/
theorem eq_longBytes {w : List Byte} (h0 : byteAt w 0 = startLong) (h12 : byteAt w 1 = byteAt w 2)
    (hL : 3 ≤ (byteAt w 1).toNat) (h3 : byteAt w 3 = startLong)
    (hlen : w.length = (byteAt w 1).toNat + 6) : ∃ l c a ci x z payload,
      l.toNat = 3 + payload.length ∧ w = longBytes l c a ci x z payload := by
  have h7 : 7 ≤ w.length := by omega
  match w with
  | [] | [_] | [_, _] | [_, _, _] | [_, _, _, _] | [_, _, _, _, _] | [_, _, _, _, _, _] =>
    exact absurd h7 (by simp)
  | b0 :: l :: l2 :: b3 :: c :: a :: ci :: rest =>
    simp only [byteAt_cons_zero, byteAt_cons_succ, List.length_cons] at h0 h12 hL h3 hlen
    subst h0 h12 h3
    have htail : (rest.drop (l.toNat - 3)).length = 2 := by rw [List.length_drop]; omega
    obtain ⟨x, z, hxz⟩ := List.length_eq_two.mp htail
    refine ⟨l, c, a, ci, x, z, rest.take (l.toNat - 3), by rw [List.length_take]; omega, ?_⟩
    simp [longBytes, ← hxz]

theorem classifyShort_more_iff {buf : List Byte} : classifyShort buf = .more ↔ buf.length < 5 := by
  refine ⟨fun h => ?_, classifyShort_more⟩
  by_contra hlen
  rw [classifyShort, if_neg hlen] at h
  split_ifs at h

/-- MORE on a Control buffer: the header checks it can make hold, and it is not complete. -/
theorem classifyLong_more_iff {buf : List Byte} : classifyLong buf = .more ↔
    (3 ≤ buf.length → byteAt buf 1 = byteAt buf 2 ∧ 3 ≤ (byteAt buf 1).toNat) ∧
    (4 ≤ buf.length → byteAt buf 3 = startLong) ∧
    (4 ≤ buf.length → buf.length < (byteAt buf 1).toNat + 6) := by
  refine ⟨classifyLong_more_inv, fun ⟨hl, hs, hn⟩ => classifyLong_more hl hs ?_⟩
  by_cases h4 : 4 ≤ buf.length
  · exact hn h4
  · omega

/-- A Control buffer that its last byte decides is wrong in its lengths, wrong in its second start
byte, or complete. -/
theorem codecWord_of_classifyLong {w : List Byte} (h0 : byteAt w 0 = startLong)
    (hne : classifyLong w ≠ .more) (hmore : classifyLong (w.take (w.length - 1)) = .more) :
    CodecWord w := by
  rw [Ne, classifyLong_more_iff] at hne
  rw [classifyLong_more_iff, List.length_take_of_le (Nat.sub_le _ _)] at hmore
  obtain ⟨hl, hs, hn⟩ := hmore
  have hat {i : Nat} (hi : i + 1 < w.length) : byteAt (w.take (w.length - 1)) i = byteAt w i :=
    byteAt_take (by omega)
  have h3 : 3 ≤ w.length := by
    by_contra hlt
    exact hne ⟨by omega, by omega, by omega⟩
  by_cases hlen : byteAt w 1 = byteAt w 2 ∧ 3 ≤ (byteAt w 1).toNat
  · obtain ⟨h12, hL⟩ := hlen
    have h4 : 4 ≤ w.length := by
      by_contra hlt
      exact hne ⟨fun _ => ⟨h12, hL⟩, by omega, by omega⟩
    by_cases hst : byteAt w 3 = startLong
    · have hge : (byteAt w 1).toNat + 6 ≤ w.length := by
        by_contra hlt
        exact hne ⟨fun _ => ⟨h12, hL⟩, fun _ => hst, by omega⟩
      have hlt := hn (by omega)
      rw [hat (by omega)] at hlt
      obtain ⟨l, c, a, ci, x, z, payload, hl', rfl⟩ := eq_longBytes h0 h12 hL hst (by omega)
      exact .long l c a ci x z payload hl'
    · have hlen4 : w.length = 4 := by
        by_contra hgt
        exact hst (hat (i := 3) (by omega) ▸ hs (by omega))
      rw [eq_map_byteAt w, hlen4]
      change CodecWord [byteAt w 0, byteAt w 1, byteAt w 2, byteAt w 3]
      rw [h0, ← h12]
      exact .start2 _ _ hL hst
  · have hlen3 : w.length = 3 := by
      by_contra hgt
      have := hl (by omega)
      rw [hat (by omega), hat (by omega)] at this
      exact hlen this
    rw [eq_map_byteAt w, hlen3]
    change CodecWord [byteAt w 0, byteAt w 1, byteAt w 2]
    rw [h0]
    exact .lengths _ _ ((not_and_or.mp hlen).imp id not_le.mp)

/-- A buffer that has an answer no shorter prefix has is a word. -/
theorem codecWord_of_rxClassify {w : List Byte} (hne : rxClassify w ≠ .more)
    (hmore : rxClassify (w.take (w.length - 1)) = .more) : CodecWord w := by
  match w with
  | [] => exact absurd rxClassify_nil hne
  | [b] =>
    by_cases hack : b = ackByte
    · exact hack ▸ .ack
    by_cases hshort : b = startShort
    · exact absurd (hshort ▸ rfl) hne
    by_cases hlong : b = startLong
    · exact absurd (hlong ▸ rfl) hne
    exact .lead b hack hshort hlong
  | b :: b1 :: bs =>
    have hcons : (b :: b1 :: bs).take ((b :: b1 :: bs).length - 1) =
        b :: (b1 :: bs).take bs.length := rfl
    by_cases hack : b = ackByte
    · rw [hcons, rxClassify_ack (List.cons_ne_nil _ _) hack] at hmore
      cases hmore
    by_cases hshort : b = startShort
    · subst hshort
      rw [rxClassify_startShort, Ne, classifyShort_more_iff] at hne
      rw [hcons, rxClassify_startShort, ← hcons, classifyShort_more_iff,
        List.length_take_of_le (Nat.sub_le _ _)] at hmore
      rw [eq_map_byteAt (startShort :: _), show (startShort :: b1 :: bs).length = 5 by omega]
      exact .short _ _ _ _
    by_cases hlong : b = startLong
    · subst hlong
      rw [rxClassify_startLong] at hne
      rw [hcons, rxClassify_startLong, ← hcons] at hmore
      exact codecWord_of_classifyLong rfl hne hmore
    · rw [hcons, rxClassify_other (List.cons_ne_nil _ _) hack hshort hlong] at hmore
      cases hmore

/-! ### Rejection rows: the row of a rejected word, and the word of a rejection row (R92) -/

/-- The length byte of a payload that fits (30_encoding.md R83). -/
theorem lengthByte_iff {l : Byte} {n : Nat} :
    l.toNat = 3 + n ↔ n ≤ maxPayload ∧ l = BitVec.ofNat 8 (3 + n) := by
  constructor
  · intro h
    have := l.isLt
    exact ⟨by simp only [maxPayload]; omega, by rw [← h]; simp⟩
  · rintro ⟨hn, rfl⟩
    simp only [maxPayload] at hn
    rw [BitVec.toNat_ofNat, Nat.mod_eq_of_lt (by omega)]

section
variable {l c a ci x z : Byte} {payload : List Byte} (hl : l.toNat = 3 + payload.length)
include hl

theorem slice_longBytes : slice (longBytes l c a ci x z payload) 7 (l.toNat + 3) = payload :=
  slice_mid _ _ _ _ _ rfl (by rw [hl]; simp only [List.length_cons, List.length_nil]; omega)

/-- The checksum and stop bytes of a control or long frame stand behind its payload. -/
theorem byteAt_longBytes (i : Nat) :
    byteAt (longBytes l c a ci x z payload) (l.toNat + 4 + i) = byteAt [x, z] i := by
  rw [longBytes, byteAt_append_right (by simp; omega)]
  congr 1
  simp
  omega

theorem rejectionOf_badChecksum_longBytes :
    rejectionOf .badChecksum (longBytes l c a ci x z payload) =
      .errLongBadchecksum c a ci payload x z := by
  have hx : byteAt (longBytes l c a ci x z payload) (l.toNat + 4) = x := byteAt_longBytes hl 0
  have hz : byteAt (longBytes l c a ci x z payload) (l.toNat + 5) = z := byteAt_longBytes hl 1
  calc rejectionOf .badChecksum (longBytes l c a ci x z payload)
    _ = .errLongBadchecksum c a ci (slice (longBytes l c a ci x z payload) 7 (l.toNat + 3))
          (byteAt (longBytes l c a ci x z payload) (l.toNat + 4))
          (byteAt (longBytes l c a ci x z payload) (l.toNat + 5)) := rfl
    _ = .errLongBadchecksum c a ci payload x z := by rw [slice_longBytes hl, hx, hz]

theorem rejectionOf_badStop_longBytes :
    rejectionOf .badStop (longBytes l c a ci x z payload) = .errLongBadstop c a ci payload z := by
  have hz : byteAt (longBytes l c a ci x z payload) (l.toNat + 5) = z := byteAt_longBytes hl 1
  calc rejectionOf .badStop (longBytes l c a ci x z payload)
    _ = .errLongBadstop c a ci (slice (longBytes l c a ci x z payload) 7 (l.toNat + 3))
          (byteAt (longBytes l c a ci x z payload) (l.toNat + 5)) := rfl
    _ = .errLongBadstop c a ci payload z := by rw [slice_longBytes hl, hz]

end

theorem rejectionOf_lead {x : Byte} (hx : x ≠ startLong) :
    rejectionOf .badStart [x] = .errBadstartLead x :=
  if_neg hx

theorem rejectionOf_start2 (l x : Byte) :
    rejectionOf .badStart [startLong, l, l, x] = .errLongBadstart2 l x :=
  rfl

theorem rejectionOf_unequalLengths {l1 l2 : Byte} (h : l1 ≠ l2) :
    rejectionOf .lengthMismatch [startLong, l1, l2] = .errLongLengthmismatch l1 l2 :=
  if_neg h

theorem rejectionOf_equalLengths (l : Byte) :
    rejectionOf .lengthMismatch [startLong, l, l] = .errLongShortlength l :=
  if_pos rfl

/-- A word with a frame is the encoding of that frame. -/
theorem CodecWord.encodeFrame_eq {w : List Byte} {f : Frame} (h : CodecWord w)
    (hf : rxClassify w = .done f) : encodeFrame f = w := by
  cases h with
  | ack => cases hf; rfl
  | lead x hack hshort hlong =>
    rw [rxClassify_other (List.cons_ne_nil _ _) hack hshort hlong] at hf
    cases hf
  | short c a x z =>
    rw [rxClassify_shortBytes] at hf
    split_ifs at hf with hx hz
    cases hf
    rw [not_not.mp hx, not_not.mp hz]
    rfl
  | lengths l1 l2 h => rw [rxClassify_lengths h] at hf; cases hf
  | start2 l x hl hx => rw [rxClassify_start2 hl hx] at hf; cases hf
  | long l c a ci x z payload hl =>
    rw [rxClassify_longBytes _ _ _ _ _ _ _ hl] at hf
    split_ifs at hf with hx hz
    cases hf
    obtain ⟨hfit, rfl⟩ := lengthByte_iff.mp hl
    rw [not_not.mp hx, not_not.mp hz, encodeFrame, if_pos hfit]
    rfl

/-- The row of a rejected word is well-formed, and its bytes are the word. -/
theorem CodecWord.rejectionOf_wf_rejected {w : List Byte} {e : FrameError} (h : CodecWord w)
    (he : rxClassify w = .err e) (p : Params) (primary : Byte) :
    (rejectionOf e w).wf p primary = true ∧ (rejectionOf e w).rejected? = some w := by
  cases h with
  | ack => cases he
  | lead x hack hshort hlong =>
    rw [rxClassify_other (List.cons_ne_nil _ _) hack hshort hlong] at he
    cases he
    rw [rejectionOf_lead hlong]
    exact ⟨by simp [Instr.wf, hack, hshort, hlong], rfl⟩
  | short c a x z =>
    rw [rxClassify_shortBytes] at he
    split_ifs at he with hx hz <;> cases he
    · exact ⟨bne_iff_ne.mpr hx, rfl⟩
    · rw [not_not.mp hx]
      exact ⟨bne_iff_ne.mpr hz, rfl⟩
  | lengths l1 l2 h =>
    rw [rxClassify_lengths h] at he
    cases he
    by_cases h12 : l1 = l2
    · subst h12
      rw [rejectionOf_equalLengths]
      exact ⟨decide_eq_true (h.resolve_left (· rfl)), rfl⟩
    · rw [rejectionOf_unequalLengths h12]
      exact ⟨bne_iff_ne.mpr h12, rfl⟩
  | start2 l x hl hx =>
    rw [rxClassify_start2 hl hx] at he
    cases he
    rw [rejectionOf_start2]
    exact ⟨by simp [Instr.wf, hl, hx], rfl⟩
  | long l c a ci x z payload hl =>
    rw [rxClassify_longBytes _ _ _ _ _ _ _ hl] at he
    obtain ⟨hfit, rfl⟩ := lengthByte_iff.mp hl
    split_ifs at he with hx hz <;> cases he
    · rw [rejectionOf_badChecksum_longBytes hl]
      exact ⟨by simp [Instr.wf, payloadFits, hfit, hx], rfl⟩
    · rw [rejectionOf_badStop_longBytes hl, not_not.mp hx]
      exact ⟨by simp [Instr.wf, payloadFits, hfit, hz], rfl⟩

/-- DECODE rejects the bytes of a well-formed rejection row, all of them, with that row. -/
theorem decodeFrame_of_rejected {p : Params} {primary : Byte} {i : Instr} {bytes : List Byte}
    (hi : i.wf p primary = true) (hr : i.rejected? = some bytes) :
    ∃ e, decodeFrame bytes = (.err e, bytes.length) ∧ rejectionOf e bytes = i := by
  cases i with
  | errBadstartLead x =>
    cases hr
    simp only [Instr.wf, Bool.and_eq_true, bne_iff_ne] at hi
    obtain ⟨⟨hack, hshort⟩, hlong⟩ := hi
    exact ⟨.badStart, (CodecWord.lead x hack hshort hlong).decodeFrame_err
      (rxClassify_other (List.cons_ne_nil _ _) hack hshort hlong), rejectionOf_lead hlong⟩
  | errShortBadchecksum c a x z =>
    cases hr
    exact ⟨.badChecksum, (CodecWord.short c a x z).decodeFrame_err
      ((rxClassify_shortBytes c a x z).trans (if_pos (bne_iff_ne.mp hi))), rfl⟩
  | errShortBadstop c a x =>
    cases hr
    exact ⟨.badStop, (CodecWord.short c a _ x).decodeFrame_err
      (by rw [rxClassify_shortBytes, if_neg (not_not.mpr rfl), if_pos (bne_iff_ne.mp hi)]), rfl⟩
  | errLongLengthmismatch l1 l2 =>
    cases hr
    have h : l1 ≠ l2 := bne_iff_ne.mp hi
    exact ⟨.lengthMismatch, (CodecWord.lengths l1 l2 (.inl h)).decodeFrame_err
      (rxClassify_lengths (.inl h)), rejectionOf_unequalLengths h⟩
  | errLongShortlength l =>
    cases hr
    have h : l.toNat < 3 := of_decide_eq_true hi
    exact ⟨.lengthMismatch, (CodecWord.lengths l l (.inr h)).decodeFrame_err
      (rxClassify_lengths (.inr h)), rejectionOf_equalLengths l⟩
  | errLongBadstart2 l x =>
    cases hr
    simp only [Instr.wf, Bool.and_eq_true, bne_iff_ne, decide_eq_true_eq] at hi
    obtain ⟨hl, hx⟩ := hi
    exact ⟨.badStart, (CodecWord.start2 l x hl hx).decodeFrame_err (rxClassify_start2 hl hx),
      rejectionOf_start2 l x⟩
  | errLongBadchecksum c a ci data x z =>
    cases hr
    simp only [Instr.wf, payloadFits, Bool.and_eq_true, bne_iff_ne, decide_eq_true_eq] at hi
    obtain ⟨hfit, hx⟩ := hi
    have hl := lengthByte_iff.mpr ⟨hfit, rfl⟩
    exact ⟨.badChecksum, (CodecWord.long _ c a ci x z data hl).decodeFrame_err
      (by rw [rxClassify_longBytes _ _ _ _ _ _ _ hl, if_pos hx]),
      rejectionOf_badChecksum_longBytes hl⟩
  | errLongBadstop c a ci data x =>
    cases hr
    simp only [Instr.wf, payloadFits, Bool.and_eq_true, bne_iff_ne, decide_eq_true_eq] at hi
    obtain ⟨hfit, hx⟩ := hi
    have hl := lengthByte_iff.mpr ⟨hfit, rfl⟩
    exact ⟨.badStop, (CodecWord.long _ c a ci _ x data hl).decodeFrame_err
      (by rw [rxClassify_longBytes _ _ _ _ _ _ _ hl, if_neg (not_not.mpr rfl), if_pos hx]),
      rejectionOf_badStop_longBytes hl⟩
  | errTruncated part =>
    cases hr
    simp only [Instr.wf, Bool.and_eq_true, beq_iff_eq] at hi
    exact ⟨.truncated, decodeFrame_more hi.2, rfl⟩
  | _ => cases hr

/-! ### Decode and encode -/

/-- DECODE answers the encoding of a frame that fits with that frame, and consumes all of it. -/
theorem decodeFrame_encodeFrame {f : Frame} (h : frameFits f = true) :
    decodeFrame (encodeFrame f) = (.ok f, (encodeFrame f).length) := by
  obtain ⟨hdone, hmore⟩ := rxClassify_encodeFrame h
  have hpos := List.length_pos_iff.mpr (Laws.EncodeNonempty.encodeFrame_ne_nil h)
  exact (decodeFrame_stop hpos le_rfl hmore).1 f (by rwa [List.take_length])

theorem encode_of_frame {p : Params} {i : Instr} {f : Frame} (h : i.frame? p = some f) :
    encode p i = some (encodeFrame f) := by
  rw [encode, h]

theorem encode_of_rejected (p : Params) {i : Instr} {bytes : List Byte}
    (h : i.rejected? = some bytes) : encode p i = some bytes := by
  cases i with
  | errBadstartLead | errShortBadchecksum | errShortBadstop | errLongLengthmismatch
  | errLongShortlength | errLongBadstart2 | errLongBadchecksum | errLongBadstop | errTruncated =>
    exact h
  | _ => cases h

/-- What has an encoding is a frame row or a rejection row. -/
theorem encode_cases {p : Params} {i : Instr} {bytes : List Byte} (h : encode p i = some bytes) :
    (∃ f, i.frame? p = some f ∧ encodeFrame f = bytes) ∨ i.rejected? = some bytes := by
  unfold encode at h
  split at h
  · next f hf => exact .inl ⟨f, hf, Option.some.inj h⟩
  · exact .inr h

/-- A buffer that DECODE accounts for in full decodes to the row of its verdict. -/
theorem decode_of_decodeFrame {buf : List Byte} {v : Decoded} (p : Params) (primary : Byte)
    (h : decodeFrame buf = (v, buf.length)) :
    decode p primary buf = (rowOf p primary v buf, []) := by
  simp only [decode, h, List.take_length, List.drop_length]

/-- Settles O17: the bytes of a frame row are the encoding of its frame, whose row it is; the bytes
of a rejection row are a word that DECODE rejects with that row. -/
theorem decodeInvertsEncode : Obligations.DecodeInvertsEncode := by
  intro p primary i bytes hp hi he
  rcases encode_cases he with ⟨f, hf, rfl⟩ | hr
  · obtain ⟨hfit, hrow⟩ := commandRow_of_frame hp hi hf
    rw [decode_of_decodeFrame p primary (decodeFrame_encodeFrame hfit), rowOf, hrow]
  · obtain ⟨e, hd, hrow⟩ := decodeFrame_of_rejected hi hr
    rw [decode_of_decodeFrame p primary hd, rowOf, hrow]

/-- What DECODE consumes is a word, whose answer is the verdict, or the whole of a partial frame. -/
theorem decodeFrame_codecWord {buf : List Byte} {v : Decoded} {k : Nat}
    (h : decodeFrame buf = (v, k)) :
    (v = .err .truncated ∧ k = buf.length ∧ rxClassify buf = .more) ∨
    (CodecWord (buf.take k) ∧ ((∃ f, v = .ok f ∧ rxClassify (buf.take k) = .done f) ∨
      ∃ e, v = .err e ∧ rxClassify (buf.take k) = .err e)) := by
  rcases decodeFrame_cases buf with ⟨hmore, hd⟩ | ⟨k', -, hk, hmore, hans⟩
  · cases hd.symm.trans h
    exact .inl ⟨rfl, rfl, hmore⟩
  · have hpre : rxClassify ((buf.take k').take ((buf.take k').length - 1)) = .more := by
      rwa [List.length_take_of_le hk, List.take_take, Nat.min_eq_left (Nat.sub_le _ _)]
    rcases hans with ⟨f, hf, hd⟩ | ⟨e, he, hd⟩ <;> cases hd.symm.trans h
    · exact .inr ⟨codecWord_of_rxClassify (by rw [hf]; exact nofun) hpre, .inl ⟨f, rfl, hf⟩⟩
    · exact .inr ⟨codecWord_of_rxClassify (by rw [he]; exact nofun) hpre, .inr ⟨e, rfl, he⟩⟩

/-- The row of DECODE's verdict is well-formed, and its bytes are the ones consumed. -/
theorem rowOf_wf_encode (p : Params) (primary : Byte) {buf : List Byte} {v : Decoded} {k : Nat}
    (hbuf : buf ≠ []) (h : decodeFrame buf = (v, k)) :
    (rowOf p primary v (buf.take k)).wf p primary = true ∧
      encode p (rowOf p primary v (buf.take k)) = some (buf.take k) := by
  rcases decodeFrame_codecWord h with ⟨rfl, rfl, hmore⟩ | ⟨hw, ⟨f, rfl, hf⟩ | ⟨e, rfl, he⟩⟩
  · rw [List.take_length]
    exact ⟨by simp [rowOf, rejectionOf, Instr.wf, hbuf, hmore], rfl⟩
  · obtain ⟨hwf, hframe⟩ := commandRow_wf_frame p primary (rxClassify_done_fits hf)
    exact ⟨hwf, (encode_of_frame hframe).trans (congrArg some (hw.encodeFrame_eq hf))⟩
  · obtain ⟨hwf, hrej⟩ := hw.rejectionOf_wf_rejected he p primary
    exact ⟨hwf, encode_of_rejected p hrej⟩

/-- Settles O18: the row spells the bytes DECODE consumes, and `decode` leaves the others. -/
theorem encodeInvertsDecode : Obligations.EncodeInvertsDecode := by
  intro p primary buf i rest hbuf hd
  cases hd
  obtain ⟨hwf, henc⟩ := rowOf_wf_encode p primary hbuf rfl
  exact ⟨hwf, _, henc, List.take_append_drop _ buf⟩

/-- Settles O16: each of the six words is closed, and the decoder computes its row. -/
theorem specWordsDecode : Obligations.SpecWordsDecode := by
  unfold Obligations.SpecWordsDecode
  decide

end Sys2Proof

namespace Sys2Proof

open Machine

/-! ### DECODE as a scan (40_frame_codec.md R113) -/

/-- The classifier's answer that a verdict reports. -/
def answerOf : Decoded → RxResult
  | .ok f => .done f
  | .err e => .err e

/-- A verdict is final, so it is enough that the longest of the shorter prefixes has no answer. -/
theorem take_more_iff {buf : List Byte} {k : Nat} (hk : 1 ≤ k) :
    (∀ j, j < k → rxClassify (buf.take j) = .more) ↔ rxClassify (buf.take (k - 1)) = .more := by
  refine ⟨fun h => h (k - 1) (by omega), fun h j hj => ?_⟩
  have hj' := rxClassify_take_more h j
  rwa [List.take_take, Nat.min_eq_left (by omega)] at hj'

theorem decodeFrame_of_answer {buf : List Byte} {v : Decoded} {k : Nat} (hk : 1 ≤ k)
    (hlen : k ≤ buf.length) (hmore : rxClassify (buf.take (k - 1)) = .more)
    (hans : rxClassify (buf.take k) = answerOf v) : decodeFrame buf = (v, k) := by
  obtain ⟨hdone, herr⟩ := decodeFrame_stop hk hlen hmore
  cases v with
  | ok f => exact hdone f hans
  | err e => exact herr e hans

/-- Truncated is the answer exactly inside a frame (40_frame_codec.md R123). -/
theorem decodeFrame_truncated_iff {buf : List Byte} {k : Nat} :
    decodeFrame buf = (.err .truncated, k) ↔ rxClassify buf = .more ∧ k = buf.length := by
  refine ⟨fun h => ?_, fun ⟨hmore, hk⟩ => hk ▸ decodeFrame_more hmore⟩
  rcases decodeFrame_codecWord h with ⟨_, hk, hmore⟩ | ⟨_, ⟨f, hv, _⟩ | ⟨e, hv, he⟩⟩
  · exact ⟨hmore, hk⟩
  · cases hv
  · cases hv
    exact absurd he (rxClassify_ne_truncated _)

/-- Any other verdict is the answer on the shortest prefix that has one (40_frame_codec.md R113). -/
theorem decodeFrame_eq_iff {buf : List Byte} {v : Decoded} {k : Nat} (hv : v ≠ .err .truncated) :
    decodeFrame buf = (v, k) ↔ 1 ≤ k ∧ k ≤ buf.length ∧
      (∀ j, j < k → rxClassify (buf.take j) = .more) ∧ rxClassify (buf.take k) = answerOf v := by
  constructor
  · intro h
    rcases decodeFrame_cases buf with ⟨_, hd⟩ | ⟨k', hk, hlen, hmore, ⟨f, hf, hd⟩ | ⟨e, he, hd⟩⟩ <;>
      cases hd.symm.trans h
    · exact absurd rfl hv
    · exact ⟨hk, hlen, (take_more_iff hk).mpr hmore, hf⟩
    · exact ⟨hk, hlen, (take_more_iff hk).mpr hmore, he⟩
  · rintro ⟨hk, hlen, hmore, hans⟩
    exact decodeFrame_of_answer hk hlen ((take_more_iff hk).mp hmore) hans

/-- What follows the consumed bytes takes no part in the verdict. -/
theorem decodeFrame_take_append {buf : List Byte} {v : Decoded} {k : Nat} (rest : List Byte)
    (h : decodeFrame buf = (v, k)) (hv : v ≠ .err .truncated) :
    decodeFrame (buf.take k ++ rest) = (v, k) := by
  rw [decodeFrame_eq_iff hv] at h ⊢
  obtain ⟨hk, hlen, hmore, hans⟩ := h
  have htake {j : Nat} (hj : j ≤ k) : (buf.take k ++ rest).take j = buf.take j := by
    rw [List.take_append_of_le_length (by rw [List.length_take_of_le hlen]; exact hj),
      List.take_take, Nat.min_eq_left hj]
  refine ⟨hk, by simp [hlen], fun j hj => ?_, ?_⟩
  · rw [htake hj.le]
    exact hmore j hj
  · rw [htake le_rfl]
    exact hans

/-- DECODE of a buffer that begins with a word is the answer on the word. -/
theorem CodecWord.decodeFrame_append {w : List Byte} {v : Decoded} (h : CodecWord w)
    (hans : rxClassify w = answerOf v) (rest : List Byte) :
    decodeFrame (w ++ rest) = (v, w.length) := by
  refine decodeFrame_of_answer (List.length_pos_iff.mpr h.ne_nil) (by simp) ?_ ?_
  · rw [List.take_append_of_le_length (Nat.sub_le _ _)]
    exact h.prefix_more
  · rwa [List.take_left]

/-- A frame that DECODE answers is encoded by the bytes it was read from. -/
theorem encodeFrame_of_decodeFrame {buf : List Byte} {f : Frame} {k : Nat}
    (h : decodeFrame buf = (.ok f, k)) : encodeFrame f = buf.take k := by
  rcases decodeFrame_codecWord h with ⟨hv, _⟩ | ⟨hw, ⟨f', hv, hf⟩ | ⟨_, hv, _⟩⟩ <;> cases hv
  exact hw.encodeFrame_eq hf

/-- Settles O7: an encoding is answered on its last byte; the bytes of an accepted frame are its
encoding, which the frame determines. -/
theorem codecRoundTrip : Obligations.CodecRoundTrip := by
  refine ⟨fun f hf => decodeFrame_encodeFrame hf, fun buf f k h => encodeFrame_of_decodeFrame h,
    fun buf buf' f h h' => ?_⟩
  calc buf = encodeFrame f := by rw [encodeFrame_of_decodeFrame h, List.take_length]
    _ = buf' := by rw [encodeFrame_of_decodeFrame h', List.take_length]

/-- Settles O9: the verdict is the answer on the shortest prefix that has one. -/
theorem decodeIsShortestVerdict : Obligations.DecodeIsShortestVerdict := by
  refine fun buf => ⟨fun f k => decodeFrame_eq_iff nofun,
    fun e k he => decodeFrame_eq_iff (mt Decoded.err.inj he), fun h => ?_,
    fun v k rest h hv => decodeFrame_take_append rest h hv⟩
  exact decodeFrame_more (by simpa using h buf.length le_rfl)

/-- Settles O10: MORE is closed under prefixes, so every prefix is MORE when the buffer is. -/
theorem truncatedExactlyInsideAFrame : Obligations.TruncatedExactlyInsideAFrame := by
  refine ⟨fun buf => ⟨fun h k _ => ?_, fun h => ?_⟩, fun buf k h => ?_⟩
  · exact rxClassify_take_more (decodeFrame_truncated_iff.mp h).1 k
  · exact decodeFrame_truncated_iff.mpr ⟨by simpa using h buf.length le_rfl, rfl⟩
  · exact (decodeFrame_truncated_iff.mp h).2

/-! ### DECODE of each frame format (R114 to R122, R130, R133) -/

theorem encodeFrame_control {c a ci : Byte} {payload : List Byte}
    (h : payload.length ≤ maxPayload) : encodeFrame (.control c a ci payload) =
      longBytes (BitVec.ofNat 8 (3 + payload.length)) c a ci (sum8 (c :: a :: ci :: payload))
        stopByte payload :=
  if_pos h

/-- The checksum byte of a control or long frame is the last byte but one. -/
theorem longBytes_set_checksum (l c a ci x y z : Byte) (payload : List Byte) :
    (longBytes l c a ci y z payload).set ((longBytes l c a ci y z payload).length - 2) x =
      longBytes l c a ci x z payload := by
  rw [show (longBytes l c a ci y z payload).length - 2 =
      ([startLong, l, l, startLong, c, a, ci] ++ payload).length by simp,
    longBytes, List.set_append_right _ _ le_rfl, Nat.sub_self]
  rfl

theorem length_longBytes {l : Byte} {payload : List Byte} (hl : l.toNat = 3 + payload.length)
    (c a ci x z : Byte) : (longBytes l c a ci x z payload).length = l.toNat + 6 := by
  simp
  omega

/-- Settles O6: the formats of `encodeFrame`, the payload being within its bound. -/
theorem encodedFrameBytes : Obligations.EncodedFrameBytes :=
  ⟨rfl, fun _ _ => rfl, fun _ _ _ _ h => encodeFrame_control h⟩

/-- Settles O8: the corrupted bytes are still a word, and the checksum is its first test. -/
theorem corruptedChecksumIsRejected : Obligations.CorruptedChecksumIsRejected := by
  intro f x hfit hack hx
  cases f with
  | ack => exact absurd rfl hack
  | short c a =>
    exact (CodecWord.short c a x stopByte).decodeFrame_err
      ((rxClassify_shortBytes c a x stopByte).trans (if_pos hx))
  | control c a ci payload =>
    have hle : payload.length ≤ maxPayload := of_decide_eq_true hfit
    have hl := lengthByte_iff.mpr ⟨hle, rfl⟩
    rw [encodeFrame_control hle, longBytes_set_checksum,
      (CodecWord.long _ c a ci x stopByte payload hl).decodeFrame_err
        ((rxClassify_longBytes _ c a ci x stopByte payload hl).trans (if_pos hx)),
      length_longBytes hl, length_longBytes hl]

/-- Settles O11: one byte is a word, unless it is a start byte. -/
theorem leadByteDecidesAckAndBadStart : Obligations.LeadByteDecidesAckAndBadStart := by
  refine ⟨fun rest => ?_, fun x rest hack hshort hlong => ?_⟩
  · exact CodecWord.ack.decodeFrame_append (v := .ok .ack) rfl rest
  · exact (CodecWord.lead x hack hshort hlong).decodeFrame_append (v := .err .badStart)
      (rxClassify_other (List.cons_ne_nil _ _) hack hshort hlong) rest

/-- The trailer of a frame is read in wire order: the checksum before the stop byte (R115, R121). -/
theorem CodecWord.decodeFrame_trailer {w : List Byte} {x cs z : Byte} {f : Frame} (h : CodecWord w)
    (hans : rxClassify w =
      if x ≠ cs then .err .badChecksum else if z ≠ stopByte then .err .badStop else .done f)
    (rest : List Byte) : decodeFrame (w ++ rest) =
      if x ≠ cs then (.err .badChecksum, w.length)
      else if z ≠ stopByte then (.err .badStop, w.length)
      else (.ok f, w.length) := by
  split_ifs at hans ⊢ with hx hz
  · exact h.decodeFrame_append (v := .err .badChecksum) hans rest
  · exact h.decodeFrame_append (v := .err .badStop) hans rest
  · exact h.decodeFrame_append (v := .ok f) hans rest

/-- Settles O12: fewer than five bytes are MORE, and five are a word. -/
theorem shortFrameDecoding : Obligations.ShortFrameDecoding := by
  refine ⟨fun buf h => ?_, fun c a x z rest => ?_⟩
  · exact decodeFrame_more ((rxClassify_startShort buf).trans
      (classifyShort_more (Nat.succ_lt_succ h)))
  · exact (CodecWord.short c a x z).decodeFrame_trailer (rxClassify_shortBytes c a x z) rest

/-- Settles O13: three bytes with unequal or short lengths are a word, and so are four with a wrong
second start byte. -/
theorem longHeaderDecoding : Obligations.LongHeaderDecoding := by
  have hlengths (l1 l2 : Byte) (rest) (h : l1 ≠ l2 ∨ l1.toNat < 3) :=
    (CodecWord.lengths l1 l2 h).decodeFrame_append (v := .err .lengthMismatch)
      (rxClassify_lengths h) rest
  refine ⟨fun l1 l2 rest h => hlengths l1 l2 rest (.inl h),
    fun l rest h => hlengths l l rest (.inr h), fun l x rest hl hx => ?_⟩
  exact (CodecWord.start2 l x hl hx).decodeFrame_append (v := .err .badStart)
    (rxClassify_start2 hl hx) rest

/-- Settles O14: with the length byte telling the payload's length, the `L + 6` bytes are a word. -/
theorem longTrailerDecoding : Obligations.LongTrailerDecoding := by
  intro l c a ci x z payload rest hl
  rw [← length_longBytes hl c a ci x z]
  exact (CodecWord.long l c a ci x z payload hl).decodeFrame_trailer
    (rxClassify_longBytes l c a ci x z payload hl) rest

/-! ### The receiver (40_frame_codec.md R125, R128) -/

theorem exec_rxbyte_of_run {s : State} (h : s.runstate = .run) (b : Byte) :
    exec (.rxbyte b) s = .next (receiveByte s b) :=
  congrArg _ (whenRun_run h fun s => receiveByte s b)

theorem exec_rxgap_of_run {s : State} (h : s.runstate = .run) :
    exec .rxgap s = .next (receiveGap s) :=
  congrArg _ (whenRun_run h receiveGap)

theorem receiveByte_of_more {s : State} {b : Byte} (h : rxClassify (s.rxbuf ++ [b]) = .more) :
    receiveByte s b = { s with rxbuf := s.rxbuf ++ [b] } := by
  rcases receiveByte_cases s b with ⟨_, hr⟩ | ⟨e, he, _⟩ | ⟨f, hf, _⟩
  · exact hr
  · cases h.symm.trans he
  · cases h.symm.trans hf

theorem receiveByte_of_err {s : State} {b : Byte} {e : FrameError}
    (h : rxClassify (s.rxbuf ++ [b]) = .err e) : receiveByte s b =
      { s with rxbuf := [], outs := s.outs ++ [.verdict (.err (.frame e))] } := by
  rcases receiveByte_cases s b with ⟨hmore, _⟩ | ⟨e', he, hr⟩ | ⟨f, hf, _⟩
  · cases h.symm.trans hmore
  · cases h.symm.trans he
    exact hr
  · cases h.symm.trans hf

theorem receiveByte_of_done {s : State} {b : Byte} {f : Frame}
    (h : rxClassify (s.rxbuf ++ [b]) = .done f) : receiveByte s b =
      executeFrame { s with rxbuf := [], outs := s.outs ++ [.verdict (.ok f)] } f := by
  rcases receiveByte_cases s b with ⟨hmore, _⟩ | ⟨e, he, _⟩ | ⟨f', hf, hr⟩
  · cases h.symm.trans hmore
  · cases h.symm.trans he
  · cases h.symm.trans hf
    exact hr

/-- Settles O23: in HALT a byte is dropped; in RUN each answer of the classifier has its effect. -/
theorem receivedByteEffect : Obligations.ReceivedByteEffect := by
  refine fun s b => ⟨fun hhalt => congrArg _ (whenRun_halt hhalt _), fun hrun => ?_⟩
  rw [exec_rxbyte_of_run hrun]
  exact ⟨fun h => congrArg _ (receiveByte_of_more h), fun e h => congrArg _ (receiveByte_of_err h),
    fun f h => congrArg _ (receiveByte_of_done h)⟩

/-- Settles O24: a gap raises Truncated, unless it stands at a frame boundary. -/
theorem gapEffect : Obligations.GapEffect := by
  intro s hrun
  rw [exec_rxgap_of_run hrun]
  rcases receiveGap_cases s with ⟨hnil, hr⟩ | ⟨hne, hr⟩
  · rw [hr, if_pos hnil]
  · rw [hr, if_neg hne]

/-- Settles O44: a function row hands over its value by `setRet`, which writes `ret` only. -/
theorem codecFunctionsReturn : Obligations.CodecFunctionsReturn :=
  fun _ _ _ _ _ _ _ _ => ⟨rfl, rfl, rfl, rfl, rfl⟩

/-! ### Byte-serial reception (R126) -/

/-- A command takes no output back. -/
theorem executeFrame_outs (s : State) (f : Frame) : s.outs <+: (executeFrame s f).outs := by
  rcases executeFrame_cases s f with e | ⟨_, a, _, _, _, e⟩ | ⟨_, a, _, _, _, e⟩ |
    ⟨_, _, d, _, _, _, _, e⟩ | ⟨_, _, d, _, _, _, e⟩
  · rw [e]
  · rw [e, sndNke_eq]
    split_ifs
    · exact List.prefix_append _ _
    · exact List.prefix_rfl
  · rcases reqUd2_cases s a with ⟨_, e'⟩ | ⟨_, _, e'⟩
    · rw [e, e']
      exact List.prefix_append _ _
    · rw [e, e']
  · rcases setAddr_cases s (newAddress d) with ⟨_, e'⟩ | ⟨_, e'⟩
    · rw [e, e']
      exact List.prefix_append _ _
    · rw [e, e']
  · rcases select_cases s d with ⟨_, _, e'⟩ | ⟨_, _, e'⟩ | ⟨_, e'⟩
    · rw [e, e']
      exact List.prefix_append _ _
    · rw [e, e']
    · rw [e, e']
      exact List.prefix_append _ _

/-- A byte that the classifier answers leaves the receiver at a frame boundary, and the verdict is its
first output. -/
theorem receiveByte_of_answer {s : State} {b : Byte} {v : Decoded}
    (h : rxClassify (s.rxbuf ++ [b]) = answerOf v) :
    (receiveByte s b).runstate = s.runstate ∧ (receiveByte s b).rxbuf = [] ∧
    (receiveByte s b).inq = s.inq ∧
    ∃ more, (receiveByte s b).outs = s.outs ++ .verdict (verdictOf v) :: more := by
  cases v with
  | err e =>
    rw [receiveByte_of_err h]
    exact ⟨rfl, rfl, rfl, [], rfl⟩
  | ok f =>
    rw [receiveByte_of_done h]
    obtain ⟨hrx, hinq, hrun, _⟩ := executeFrame_frame
      { s with rxbuf := [], outs := s.outs ++ [.verdict (.ok f)] } f
    obtain ⟨more, houts⟩ := executeFrame_outs
      { s with rxbuf := [], outs := s.outs ++ [.verdict (.ok f)] } f
    exact ⟨hrun, hrx, hinq, more, by rw [← houts, List.append_assoc]; rfl⟩

theorem step_of_inq_rx {s : State} {b : Byte} {rest : List Event} (hrun : s.runstate = .run)
    (h : s.inq = .rx b :: rest) : step s = .next (receiveByte { s with inq := rest } b) :=
  (step_of_inq_cons h).trans (exec_rxbyte_of_run (s := { s with inq := rest }) hrun b)

theorem step_of_inq_gap {s : State} {rest : List Event} (hrun : s.runstate = .run)
    (h : s.inq = .gap :: rest) : step s = .next (receiveGap { s with inq := rest }) :=
  (step_of_inq_cons h).trans (exec_rxgap_of_run (s := { s with inq := rest }) hrun)

/-- Bytes after which the buffer is still inside a frame are appended, one by one. -/
theorem steps_of_more {bs : List Byte} {tail : List Event} {s : State} (hrun : s.runstate = .run)
    (hinq : s.inq = bs.map .rx ++ tail) (hmore : rxClassify (s.rxbuf ++ bs) = .more) :
    steps bs.length s = .next { s with rxbuf := s.rxbuf ++ bs, inq := tail } := by
  induction bs generalizing s with
  | nil =>
    have htail : s.inq = tail := hinq
    simp [← htail]
  | cons b bs ih =>
    have hfirst : rxClassify (s.rxbuf ++ [b]) = .more := by
      rw [← take_succ_append s.rxbuf bs b]
      exact rxClassify_take_more hmore _
    have hstep : step s = .next { s with rxbuf := s.rxbuf ++ [b], inq := bs.map .rx ++ tail } :=
      (step_of_inq_rx hrun hinq).trans (congrArg _ (receiveByte_of_more hfirst))
    have hrest := ih (s := { s with rxbuf := s.rxbuf ++ [b], inq := bs.map .rx ++ tail }) hrun rfl
      (by rwa [List.append_assoc])
    rw [List.length_cons, steps_succ, hstep]
    simpa using hrest

/-- A buffer with a verdict, received at a frame boundary: the verdict comes with byte `k`, and
nothing before it. -/
theorem steps_of_verdict {s : State} {buf : List Byte} {tail : List Event} {v : Decoded} {k : Nat}
    (hrun : s.runstate = .run) (hrx : s.rxbuf = []) (hinq : s.inq = buf.map .rx ++ tail)
    (hd : decodeFrame buf = (v, k)) (hv : v ≠ .err .truncated) :
    steps (k - 1) s = .next { s with
      rxbuf := buf.take (k - 1), inq := (buf.drop (k - 1)).map .rx ++ tail } ∧
    ∃ t more, steps k s = .next t ∧ t.runstate = .run ∧ t.rxbuf = [] ∧
      t.inq = (buf.drop k).map .rx ++ tail ∧
      t.outs = s.outs ++ .verdict (verdictOf v) :: more := by
  obtain ⟨hk, hlen, hmore, hans⟩ := (decodeFrame_eq_iff hv).mp hd
  have hprefix : steps (k - 1) s = .next { s with
      rxbuf := buf.take (k - 1), inq := (buf.drop (k - 1)).map .rx ++ tail } := by
    have h := steps_of_more (bs := buf.take (k - 1)) (tail := (buf.drop (k - 1)).map .rx ++ tail)
      hrun (by rw [← List.append_assoc, ← List.map_append, List.take_append_drop, hinq])
      (by rw [hrx]; exact hmore (k - 1) (by omega))
    rwa [List.length_take_of_le (by omega), hrx, List.nil_append] at h
  refine ⟨hprefix, ?_⟩
  obtain ⟨k, rfl⟩ := Nat.exists_eq_add_of_le' hk
  rw [Nat.add_sub_cancel] at hprefix
  rw [List.take_succ_eq_append_getElem hlen] at hans
  have hnext : (buf.drop k).map .rx ++ tail =
      .rx buf[k] :: ((buf.drop (k + 1)).map .rx ++ tail) := by
    rw [List.drop_eq_getElem_cons hlen]
    rfl
  rw [steps_add 1 hprefix, steps_one]
  obtain ⟨hrun', hrx', hinq', more, houts⟩ := receiveByte_of_answer (v := v)
    (s := { s with rxbuf := buf.take k, inq := (buf.drop (k + 1)).map .rx ++ tail }) hans
  exact ⟨_, more, step_of_inq_rx hrun hnext, hrun'.trans hrun, hrx', hinq', houts⟩

/-- Settles O22: the bytes before the deciding one are appended; that one gives DECODE's verdict, and
for a partial frame the gap does. -/
theorem byteStreamAgreesWithDecode : Obligations.ByteStreamAgreesWithDecode := by
  intro s buf after v k hrun hrx hinq hd
  refine ⟨fun hv => steps_of_verdict hrun hrx hinq hd hv, ?_, ?_⟩
  · rintro rfl
    rw [steps_one, step_of_inq_gap hrun hinq]
    exact congrArg _ (if_pos hrx)
  · rintro rfl hne
    obtain ⟨hmore, -⟩ := decodeFrame_truncated_iff.mp hd
    have hbytes : steps buf.length s = .next { s with rxbuf := buf, inq := .gap :: after } := by
      have h := steps_of_more hrun hinq (by rwa [hrx])
      rwa [hrx] at h
    refine ⟨hbytes, ?_⟩
    rw [steps_add 1 hbytes, steps_one]
    exact (step_of_inq_gap (s := { s with rxbuf := buf, inq := .gap :: after }) hrun rfl).trans
      (congrArg _ (if_neg hne))

/-! ### The byte that completes a row (R125, 30_encoding.md R91, R92) -/

/-- The row of a rejected buffer raises the error it was rejected with. -/
theorem rejectionError_rejectionOf (e : FrameError) (buf : List Byte) :
    rejectionError (rejectionOf e buf) = some e := by
  cases e with
  | truncated => rfl
  | badChecksum | badStop | lengthMismatch | badStart =>
    simp only [rejectionOf]
    split_ifs <;> rfl

theorem exec_of_rejectionError {i : Instr} {e : FrameError} {s : State}
    (h : rejectionError i = some e) (hrun : s.runstate = .run) :
    exec i s = .next (s.raiseFrame e) := by
  rw [← whenRun_run hrun fun s => s.raiseFrame e]
  cases i with
  | errBadstartLead | errShortBadchecksum | errShortBadstop | errLongLengthmismatch
  | errLongShortlength | errLongBadstart2 | errLongBadchecksum | errLongBadstop | errTruncated =>
    cases h
    rfl
  | _ => cases h

/-- In a listening block the row of a frame is the frame's command. -/
theorem exec_commandRow_of_run (s : State) (f : Frame) (hrun : s.runstate = .run) :
    exec (commandRow s.par s.primary f) s = .next (executeFrame s f) := by
  rw [← executeIsTheCommandRow s f]
  exact congrArg _ (whenRun_run hrun fun s => executeFrame s f)

/-- The step of a byte that completes a frame runs the frame's row. -/
theorem step_of_done {s : State} {b : Byte} {rest : List Event} {f : Frame}
    (hrun : s.runstate = .run) (hinq : s.inq = .rx b :: rest)
    (h : rxClassify (s.rxbuf ++ [b]) = .done f) : step s =
      exec (commandRow s.par s.primary f)
        { s with inq := rest, rxbuf := [], outs := s.outs ++ [.verdict (.ok f)] } := by
  rw [step_of_inq_rx hrun hinq, receiveByte_of_done (s := { s with inq := rest }) h]
  exact (exec_commandRow_of_run
    { s with inq := rest, rxbuf := [], outs := s.outs ++ [.verdict (.ok f)] } f hrun).symm

/-- The step of a byte that completes a rejected word raises its error. -/
theorem step_of_err {s : State} {b : Byte} {rest : List Event} {e : FrameError}
    (hrun : s.runstate = .run) (hinq : s.inq = .rx b :: rest)
    (h : rxClassify (s.rxbuf ++ [b]) = .err e) :
    step s = .next ({ s with inq := rest }.raiseFrame e) :=
  (step_of_inq_rx hrun hinq).trans (congrArg _ (receiveByte_of_err (s := { s with inq := rest }) h))

/-- Settles O20: a word that its last byte completes is decoded as the row of the classifier's answer,
which is the row the step runs. -/
theorem stepRunsDecodedInstruction : Obligations.StepRunsDecodedInstruction := by
  intro s b rest i hrun hinq hmore hdec
  have hrow {v : Decoded} (hv : rxClassify (s.rxbuf ++ [b]) = answerOf v) :
      rowOf s.par s.primary v (s.rxbuf ++ [b]) = i := by
    have hd : decodeFrame (s.rxbuf ++ [b]) = (v, (s.rxbuf ++ [b]).length) :=
      decodeFrame_of_answer (by simp) le_rfl (by simpa using hmore) (by rwa [List.take_length])
    exact congrArg Prod.fst ((decode_of_decodeFrame s.par s.primary hd).symm.trans hdec)
  refine ⟨fun f hf => ?_, fun e he => ?_, fun h => ?_⟩
  · rw [step_of_done hrun hinq hf, ← hrow (v := .ok f) hf, rowOf]
  · rw [step_of_err hrun hinq he, ← hrow (v := .err e) he]
    exact (exec_of_rejectionError (s := { s with inq := rest })
      (rejectionError_rejectionOf e (s.rxbuf ++ [b])) hrun).symm
  · rw [step_of_inq_rx hrun hinq]
    exact congrArg _ (receiveByte_of_more (s := { s with inq := rest }) h)

/-! ### The instruction of a table word (log entry 20) -/

theorem length_wordBytes (n w : Nat) : (wordBytes n w).length = n := by
  induction n generalizing w with
  | zero => rfl
  | succ n ih => rw [wordBytes, List.length_cons, ih]

theorem maxFrame_le_length_tableBytes (nbits w : Nat) :
    maxFrame ≤ (tableBytes nbits w).length := by
  rw [tableBytes, List.length_append, length_wordBytes, List.length_replicate]
  omega

/-- The bytes of a table word are longer than any partial frame, so they have a verdict. -/
theorem decodeFrame_tableBytes (nbits w : Nat) : ∃ v k,
    decodeFrame (tableBytes nbits w) = (v, k) ∧ v ≠ .err .truncated := by
  refine ⟨_, _, rfl, fun hv => ?_⟩
  obtain ⟨hmore, -⟩ := decodeFrame_truncated_iff.mp (Prod.ext hv rfl)
  have hshort := (partialFrameIsShortAndStarted _ hmore).1
  have hlong := maxFrame_le_length_tableBytes nbits w
  rw [maxFrame] at hlong
  omega

theorem dropLast_append_byteAt {w : List Byte} (h : w ≠ []) :
    w.dropLast ++ [byteAt w (w.length - 1)] = w := by
  conv_rhs => rw [← List.dropLast_append_getLast h, List.getLast_eq_getElem]
  simp [byteAt, List.length_pos_iff.mpr h]

/-- Settles O21: the placed bytes are a word, the placed event its last byte, so the step runs the row
of its verdict; a rejection empties RXBUF, whatever was placed there. -/
theorem fetchWordRunsTableInstruction : Obligations.FetchWordRunsTableInstruction := by
  intro s nbits w hpar hprimary
  obtain ⟨v, k, hd, hv⟩ := decodeFrame_tableBytes nbits w
  have hrow : decodeTableWord nbits w =
      some (rowOf s.par s.primary v ((tableBytes nbits w).take k)) := by
    rw [decodeTableWord, decode, hd, hpar, hprimary]
  have hplaced : s.withFetchWord nbits w = s.placeFrame ((tableBytes nbits w).take k) := by
    rw [State.withFetchWord, placeWord, hd]
  rcases decodeFrame_codecWord hd with ⟨htrunc, _⟩ | ⟨hword, hans⟩
  · exact absurd htrunc hv
  rw [hrow, hplaced]
  generalize (tableBytes nbits w).take k = used at hword hans
  have hbytes : (s.placeFrame used).rxbuf ++ [byteAt used (used.length - 1)] = used :=
    dropLast_append_byteAt hword.ne_nil
  refine ⟨_, rfl, ?_⟩
  rcases hans with ⟨f, rfl, hf⟩ | ⟨e, rfl, he⟩
  · exact .inr ⟨f, (commandRow_wf_frame s.par s.primary (rxClassify_done_fits hf)).2,
      step_of_done (s := s.placeFrame used) rfl rfl (by rwa [hbytes])⟩
  · refine .inl ⟨e, rejectionError_rejectionOf e used, ?_⟩
    rw [rowOf, exec_of_rejectionError (rejectionError_rejectionOf e used) rfl]
    exact step_of_err (s := s.placeFrame used) rfl rfl (by rwa [hbytes])

end Sys2Proof

namespace Sys2Proof.Machine

/-! ### The address resolver (41_address_resolver.md R140 to R147) -/

theorem matchesPrimary_iff {a p : Byte} :
    matchesPrimary a p = true ↔ a = p ∨ a = addrBcastReply ∨ a = addrNetwork := by
  simp only [matchesPrimary, Bool.or_eq_true, beq_iff_eq, or_assoc]

/-- Settles O45: the matcher's answer is its condition, and the row hands it over by `setRet`. -/
theorem matchPrimaryReturns : Obligations.MatchPrimaryReturns := by
  intro s a p
  have hm : matchesPrimary a p = decide (a = p ∨ a = 254#8 ∨ a = 253#8) :=
    Bool.eq_iff_iff.mpr (matchesPrimary_iff.trans decide_eq_true_iff.symm)
  rw [← hm]
  rfl

theorem nibbleMatches_iff {m d : Nibble} :
    nibbleMatches m d = true ↔ m = wildcardNibble ∨ m = d := by
  simp only [nibbleMatches, Bool.or_eq_true, beq_iff_eq]

/-- The nibbles of a byte begin at bits 4 and 0 (00_scope.md R11). -/
theorem byteMatches_iff {m d : Byte} : byteMatches m d = true ↔
    ∀ lo, lo = 4 ∨ lo = 0 → nibbleMatches (m.extractLsb' lo 4) (d.extractLsb' lo 4) = true := by
  simp only [byteMatches, hiNibble, loNibble, Bool.and_eq_true, forall_eq_or_imp, forall_eq]

/-- AND semantics: every one of the eight nibbles matches (41_address_resolver.md R143, R145). -/
theorem maskMatches_iff {mask id : Quad} : maskMatches mask id = true ↔
    ∀ n, n < 4 → ∀ lo, lo = 4 ∨ lo = 0 →
      nibbleMatches ((byteAt mask.toList n).extractLsb' lo 4)
        ((byteAt id.toList n).extractLsb' lo 4) = true := by
  simp only [← byteMatches_iff, Nat.forall_lt_succ_left, Nat.not_lt_zero, false_imp_iff,
    implies_true, and_true, maskMatches, Bool.and_eq_true, and_assoc]
  rfl

/-- One nibble that does not match defeats the match, whatever the others. -/
theorem maskMatches_eq_false {mask id : Quad} {n lo : Nat} (hn : n < 4) (hlo : lo = 4 ∨ lo = 0)
    (hwild : (byteAt mask.toList n).extractLsb' lo 4 ≠ wildcardNibble)
    (hne : (byteAt mask.toList n).extractLsb' lo 4 ≠ (byteAt id.toList n).extractLsb' lo 4) :
    maskMatches mask id = false := by
  refine Bool.eq_false_iff.mpr fun hm => ?_
  exact (nibbleMatches_iff.mp (maskMatches_iff.mp hm n hn lo hlo)).elim hwild hne

theorem maskMatches_self (id : Quad) : maskMatches id id = true :=
  maskMatches_iff.mpr fun _ _ _ _ => nibbleMatches_iff.mpr (.inr rfl)

theorem maskMatches_wildcards (id : Quad) :
    maskMatches ⟨0xFF#8, 0xFF#8, 0xFF#8, 0xFF#8⟩ id = true := by
  refine maskMatches_iff.mpr fun n hn lo hlo => nibbleMatches_iff.mpr (.inl ?_)
  have hbyte : byteAt (Quad.toList ⟨0xFF#8, 0xFF#8, 0xFF#8, 0xFF#8⟩) n = 0xFF#8 := by
    interval_cases n <;> rfl
  rw [hbyte]
  rcases hlo with rfl | rfl <;> decide

theorem byteAt_selMask (data : List Byte) {n : Nat} (hn : n < 4) :
    byteAt (selMask data).toList n = byteAt data n := by
  interval_cases n <;> rfl

theorem matchesSecondary_of_length_ne {data : List Byte} (h : data.length ≠ selDataLen)
    (id : Quad) : matchesSecondary data id = (false, some .addressing) :=
  if_pos h

theorem matchesSecondary_of_length_eq {data : List Byte} (h : data.length = selDataLen)
    (id : Quad) : matchesSecondary data id = (maskMatches (selMask data) id, none) :=
  if_neg (not_not_intro h)

theorem exec_matchSecondary {data : List Byte} {id : Quad} {m : Bool} {e : Option Err}
    (h : matchesSecondary data id = (m, e)) (s : State) :
    exec (.matchSecondary data id) s = .next { s with ret := some (.matched m e) } := by
  have hexec : exec (.matchSecondary data id) s = .next
      (s.setRet (.matched (matchesSecondary data id).1 (matchesSecondary data id).2)) := rfl
  rw [hexec, h, State.setRet]

/-- Settles O46: the length is tested first; the match of eight bytes of data is the AND over the
nibbles of their mask, the first four bytes. -/
theorem matchSecondaryReturns : Obligations.MatchSecondaryReturns := by
  intro s data id
  refine ⟨fun hlen => exec_matchSecondary (matchesSecondary_of_length_ne hlen id) s, fun hlen =>
    ⟨_, exec_matchSecondary (matchesSecondary_of_length_eq hlen id) s, maskMatches_iff.trans ?_⟩⟩
  refine forall₂_congr fun n hn => forall₂_congr fun lo _ => ?_
  rw [byteAt_selMask data hn]
  exact nibbleMatches_iff

/-- Settles O47: a nibble of the two masks matches as a wildcard or as the id's own, and a nibble that
is neither defeats the match. -/
theorem secondaryMatchProperties : Obligations.SecondaryMatchProperties :=
  fun _ id => ⟨maskMatches_wildcards id, maskMatches_self id,
    fun _ _ hn hlo hwild hne => maskMatches_eq_false hn hlo hwild hne⟩

/-- Settles O48: a nibble from A to E is below the wildcard F and above every decimal digit. -/
theorem nonDecimalMaskNeverMatches : Obligations.NonDecimalMaskNeverMatches := by
  rintro mask id hdecimal ⟨n, lo, hn, hlo, h10, h14⟩
  refine maskMatches_eq_false hn hlo (fun hwild => ?_) fun heq => ?_
  · rw [hwild] at h14
    exact absurd h14 (by decide)
  · have h9 := hdecimal n lo hn hlo
    rw [← heq] at h9
    omega

end Sys2Proof.Machine

namespace Sys2Proof.Machine

/-! ### The rows that ignore their frame (42_slave_commands.md R157, R180) -/

/-- Settles O35: each of these rows is `ignore`. -/
theorem ignoreRowsChangeNothing : Obligations.IgnoreRowsChangeNothing :=
  fun _ _ _ _ _ => ⟨rfl, rfl, rfl, rfl, rfl⟩

/-! ### The command rows of a frame the block acts on (R160, R165, R170, R175) -/

/-- With NKE_NETLAYER_ACK false, the rule's choice, 253 is acknowledged only if it is PRIMARY. -/
theorem nkeAcked_iff {p : Params} (hp : p.nkeNetlayerAck = false) {primary a : Byte} :
    nkeAcked p primary a = true ↔ a = primary ∨ a = addrBcastReply := by
  simp only [nkeAcked, hp, Bool.and_false, Bool.or_false, Bool.or_eq_true, beq_iff_eq]

/-- Settles O30: both rows are `sndNke` of the address. -/
theorem sndNkeEffect : Obligations.SndNkeEffect := by
  intro s c a ci data i hi hrun ha hp
  have hexec : exec i s = .next (sndNke s a) := by
    rcases hi with rfl | rfl <;> exact congrArg _ (onFrame_heard hrun ha _)
  rw [hexec, sndNke_eq]
  exact ⟨congrArg _ (if_congr (nkeAcked_iff hp) rfl rfl), delaysAreBounded _⟩

/-- Settles O32: both rows are `reqUd2` of the address. -/
theorem reqUd2Effect : Obligations.ReqUd2Effect := by
  intro s c a ci data i hi hrun ha
  have hexec : exec i s = .next (reqUd2 s a) := by
    rcases hi with rfl | rfl <;> exact congrArg _ (onFrame_heard hrun ha _)
  rw [hexec, reqUd2, sendResponse_eq, State.ignore]

theorem setAddr_eq (s : State) (new : Byte) : setAddr s new =
    if s.selected = true then
      { s with
        primary := new
        resp := { s.resp with a := new }
        outs := s.outs ++ [.tx .zero [ackByte]] }
    else s := rfl

theorem isSetAddr_iff {payload : List Byte} : isSetAddr payload = true ↔
    3 ≤ payload.length ∧ byteAt payload 0 = setaddrB0 ∧ byteAt payload 1 = setaddrB1 := by
  simp only [isSetAddr, Bool.and_eq_true, decide_eq_true_eq, beq_iff_eq, and_assoc]

theorem exec_execute (s : State) (f : Frame) :
    exec (.execute f) s = .next (if s.runstate = .run then executeFrame s f else s) := rfl

theorem exec_execute_of_run {s : State} (hrun : s.runstate = .run) (f : Frame) :
    exec (.execute f) s = .next (executeFrame s f) := by
  rw [exec_execute, if_pos hrun]

/-- A DATA_SEND frame whose payload is no set-address command meets no test of the dispatch. -/
theorem executeFrame_dataSend_of_not_isSetAddr {s : State} {c a : Byte} {payload : List Byte}
    (ha : heard s.primary a = true) (hwf : s.par.wf = true) (hc : codeOf s.par c = s.par.cSndUd)
    (hp : isSetAddr payload ≠ true) :
    executeFrame s (.control c a s.par.ciDataSend payload) = s := by
  obtain ⟨-, hnu, hru, hci⟩ := Params.wf_distinct hwf
  rw [executeFrame_control_of_heard ha, hc, if_neg hnu.symm, if_neg hru.symm,
    if_neg fun h => hp h.2.2, if_neg fun h => hci h.2]

/-- Settles O33: the row is `setAddr` of NEW, which reads SELECTED alone. -/
theorem setAddrEffect : Obligations.SetAddrEffect := by
  refine fun s c a hrun ha => ⟨fun new extra => ?_, fun payload hwf hc hp => ?_⟩
  · exact congrArg _ ((onFrame_heard hrun ha fun s => setAddr s new).trans (setAddr_eq s new))
  · rw [exec_execute_of_run hrun,
      executeFrame_dataSend_of_not_isSetAddr ha hwf hc fun h => hp (isSetAddr_iff.mp h)]

theorem select_of_length_eq {s : State} {data : List Byte} (h : data.length = 8) :
    select s data = if maskMatches (selMask data) s.secid = true then
      { s with selected := true, outs := s.outs ++ [.tx .zero [ackByte]] }
    else { s with selected := false } := by
  rcases select_cases s data with ⟨_, hm, e⟩ | ⟨_, hm, e⟩ | ⟨hlen, _⟩
  · rw [e, if_pos hm]
  · rw [e, if_neg (Bool.eq_false_iff.mp hm)]
  · exact absurd h hlen

theorem select_of_length_ne {s : State} {data : List Byte} (h : data.length ≠ 8) :
    select s data =
      { s with selected := false, outs := s.outs ++ [.verdict (.err .addressing)] } := by
  rcases select_cases s data with ⟨hlen, _⟩ | ⟨hlen, _⟩ | ⟨_, e⟩
  · exact absurd hlen h
  · exact absurd hlen h
  · exact e

/-- Settles O34: both rows are `select` of their data, and a mask and a tail are eight bytes. -/
theorem selectEffect : Obligations.SelectEffect := by
  refine fun s c a hrun ha => ⟨fun mask tail => ?_, fun data hlen => ?_⟩
  · exact congrArg _ ((onFrame_heard hrun ha fun s => select s (mask.toList ++ tail.toList)).trans
      (select_of_length_eq rfl))
  · exact congrArg _ ((onFrame_heard hrun ha fun s => select s data).trans
      (select_of_length_ne hlen))

/-! ### The dispatch of EXECUTE (R155, R156) -/

/-- Every row that stands for a frame the block does not act on is dropped by its address test (log
entry 14), or ignores its frame anyway. -/
theorem exec_of_frame_unheard {s : State} {i : Instr} {f : Frame} {a : Byte}
    (hi : i.frame? s.par = some f) (hf : frameAddress f = some a)
    (ha : heard s.primary a = false) : exec i s = .next s := by
  cases i with
  | ack | ignoreBcastNoreplyShort | ignoreBcastNoreplyLong | ignoreNotForUs | ignoreUnknown => rfl
  | sndNke | sndNkeLong | reqUd2 | reqUd2Long | setAddr | select | selectBadlen =>
    cases hi
    cases hf
    exact congrArg _ (onFrame_unheard ha _)
  | _ => cases hi

/-- Settles O36: EXECUTE has the address filters of R155, and each row has its own. -/
theorem unheardFramesDoNothing : Obligations.UnheardFramesDoNothing := by
  intro s f a hf ha
  exact ⟨by rw [exec_execute, executeFrame_of_unheard hf ha, ite_self],
    fun i hi => exec_of_frame_unheard hi hf ha⟩

/-- Settles O37: the tests of `executeFrame`, their constants written out. -/
theorem executeDispatch : Obligations.ExecuteDispatch := by
  intro s c a ci data hrun
  simp only [exec_execute_of_run hrun, executeFrame, Bool.not_eq_true', isSetAddr_iff]
  exact ⟨rfl, rfl, rfl⟩

/-- EXECUTE reads the control byte through the function code alone. -/
theorem executeFrame_congr_code {s : State} {c c' : Byte} (h : codeOf s.par c = codeOf s.par c')
    (a ci : Byte) (data : List Byte) :
    executeFrame s (.short c a) = executeFrame s (.short c' a) ∧
    executeFrame s (.control c a ci data) = executeFrame s (.control c' a ci data) := by
  simp only [executeFrame, h, and_self]

/-- Settles O39: control bytes that differ in FCB bits only have one function code. -/
theorem fcbChangesNothing : Obligations.FcbChangesNothing := by
  intro s c c' a ci data h
  obtain ⟨hshort, hcontrol⟩ := executeFrame_congr_code h a ci data
  exact ⟨by rw [exec_execute, exec_execute, hshort], by rw [exec_execute, exec_execute, hcontrol]⟩

/-- A byte is its part outside a mask and its part inside. -/
theorem and_not_or_and (c m : Byte) : (c &&& ~~~m) ||| (c &&& m) = c := by
  rw [← BitVec.and_or_distrib_left, BitVec.not_or_self, BitVec.and_allOnes]

/-- The part of `c` inside the mask is its FCB bit, so the part outside it, the function code, leaves
two values for `c`. -/
theorem codeOf_eq_iff {p : Params} {c code : Byte} {n : Nat} (hbit : p.fcbMask = 1#8 <<< n)
    (hcode : code &&& p.fcbMask = 0#8) :
    codeOf p c = code ↔ c = code ∨ c = code ||| p.fcbMask := by
  have hclear : code &&& ~~~p.fcbMask = code := by
    simpa only [hcode, BitVec.or_zero] using and_not_or_and code p.fcbMask
  refine ⟨fun h => ?_, ?_⟩
  · have hinside : c &&& p.fcbMask = if c.getLsbD n then p.fcbMask else 0#8 := by
      rw [hbit]
      exact BitVec.and_twoPow c n
    have hc : code ||| (c &&& p.fcbMask) = c := h ▸ and_not_or_and c p.fcbMask
    rw [hinside] at hc
    split_ifs at hc
    · exact .inr hc.symm
    · exact .inl (by rw [← hc, BitVec.or_zero])
  · rintro (rfl | rfl)
    · exact hclear
    · rw [codeOf, BitVec.and_or_distrib_right, hclear, BitVec.and_not_self]
      exact BitVec.or_zero

theorem codes_and_fcbMask_of_wf {p : Params} (h : p.wf = true) :
    p.cSndNke &&& p.fcbMask = 0#8 ∧ p.cReqUd2 &&& p.fcbMask = 0#8 ∧ p.cSndUd &&& p.fcbMask = 0#8 := by
  simp only [Params.wf, Bool.and_eq_true, beq_iff_eq] at h
  obtain ⟨⟨⟨⟨-, h1⟩, h2⟩, h3⟩, -⟩ := h
  exact ⟨h1, h2, h3⟩

/-- Settles O40: no known code has the FCB bit (00_scope.md R9). -/
theorem twoControlBytesPerCode : Obligations.TwoControlBytesPerCode := by
  rintro p c code hwf ⟨n, _, hbit⟩ hcode
  obtain ⟨hnke, hreq, hud⟩ := codes_and_fcbMask_of_wf hwf
  rcases hcode with rfl | rfl | rfl
  · exact codeOf_eq_iff hbit hnke
  · exact codeOf_eq_iff hbit hreq
  · exact codeOf_eq_iff hbit hud

/-! ### Writes of SELECTED (42_slave_commands.md R182) -/

/-- Frame `f` makes SELECTED `b` in `s`: it is a SND_NKE to 253, or a selection for us. -/
def WritesSelected (s : State) (f : Frame) (b : Bool) : Prop :=
  (isNetworkNke s f ∧ b = false) ∨ ∃ data, isSelection s f data ∧
    (b = true ↔ data.length = 8 ∧ maskMatches (selMask data) s.secid = true)

theorem sndNke_selected (s : State) (a : Byte) :
    (sndNke s a).selected = selectedAfterNke a s.selected := by
  rw [sndNke_eq]
  split_ifs <;> rfl

theorem select_selected_iff (s : State) (data : List Byte) : (select s data).selected = true ↔
    data.length = 8 ∧ maskMatches (selMask data) s.secid = true := by
  rcases select_cases s data with ⟨hlen, hm, e⟩ | ⟨_, hm, e⟩ | ⟨hlen, e⟩ <;> rw [e]
  · exact iff_of_true rfl ⟨hlen, hm⟩
  · exact iff_of_false nofun fun h => Bool.eq_false_iff.mp hm h.2
  · exact iff_of_false nofun fun h => hlen h.1

/-- A command keeps SELECTED, or is one of the two that write it. -/
theorem executeFrame_selected (s : State) (f : Frame) :
    (executeFrame s f).selected = s.selected ∨ WritesSelected s f (executeFrame s f).selected := by
  rcases executeFrame_cases s f with e | ⟨c, a, hf, _, hc, e⟩ | ⟨_, a, _, _, _, e⟩ |
    ⟨_, _, d, _, _, _, _, e⟩ | ⟨c, a, d, hf, ha, hc, e⟩ <;> rw [e]
  · exact .inl rfl
  · rw [sndNke_selected, selectedAfterNke]
    split_ifs with h253
    · subst h253
      exact .inr (.inl ⟨⟨c, hc, hf⟩, rfl⟩)
    · exact .inl rfl
  · obtain ⟨_, _, _, e⟩ := reqUd2_frame s a
    exact .inl (by rw [e])
  · obtain ⟨_, _, _, _, e⟩ := setAddr_frame s (newAddress d)
    exact .inl (by rw [e])
  · exact .inr (.inr ⟨d, ⟨c, a, hf, ha, hc⟩, select_selected_iff s d⟩)

/-- A step that is no RESET executes the frame its byte completes, or writes no register but RXBUF. -/
theorem step_executes_or_keeps {s t : State} (hstep : step s = .next t)
    (hreset : ∀ cfg rest, s.inq ≠ .reset cfg :: rest) :
    (∃ f rest, completes s f ∧ t = executeFrame
      { s with inq := rest, rxbuf := [], outs := s.outs ++ [.verdict (.ok f)] } f) ∨
    ∃ rxbuf, t.toRegs = { s.toRegs with rxbuf := rxbuf } := by
  rcases step_effect hstep with ⟨_, rfl⟩ | ⟨ev, rest, hq, eff⟩
  · exact .inr ⟨_, rfl⟩
  cases ev with
  | reset cfg => exact absurd hq (hreset cfg rest)
  | rx b =>
    cases eff with
    | rxbyte _ hrun =>
      rcases receiveByte_cases { s with inq := rest } b with ⟨_, e⟩ | ⟨_, _, e⟩ | ⟨f, hf, e⟩
      · exact .inr ⟨_, by rw [e]⟩
      · exact .inr ⟨_, by rw [e]⟩
      · exact .inl ⟨f, rest, ⟨hrun, b, rest, hq, hf⟩, e⟩
    | _ => exact .inr ⟨_, rfl⟩
  | gap =>
    cases eff with
    | rxgap =>
      rcases receiveGap_cases { s with inq := rest } with ⟨_, e⟩ | ⟨_, e⟩
      · exact .inr ⟨_, by rw [e]⟩
      · exact .inr ⟨_, by rw [e]⟩
    | _ => exact .inr ⟨_, rfl⟩
  | rxerr | shutdown | fatal => cases eff <;> exact .inr ⟨_, rfl⟩

/-- A step that changes SELECTED, and is no RESET, completes a frame that writes it. -/
theorem step_selected_ne {s t : State} (hstep : step s = .next t)
    (hreset : ∀ cfg rest, s.inq ≠ .reset cfg :: rest) (hne : t.selected ≠ s.selected) :
    ∃ f, completes s f ∧ WritesSelected s f t.selected := by
  rcases step_executes_or_keeps hstep hreset with ⟨f, rest, hf, rfl⟩ | ⟨_, e⟩
  · exact ⟨f, hf, (executeFrame_selected _ f).resolve_left hne⟩
  · exact absurd (congrArg Regs.selected e) hne

/-- Settles O52: of the two writers, a SND_NKE to 253 only clears SELECTED, and a selection sets it to
its match. -/
theorem selectedTransitions : Obligations.SelectedTransitions := by
  refine fun s t hstep hreset => ⟨fun hs ht => ?_, fun hs ht => ?_⟩
  · obtain ⟨f, hf, hw⟩ := step_selected_ne hstep hreset (by simp [hs, ht])
    rcases hw with ⟨_, hclear⟩ | ⟨data, hsel, hiff⟩
    · cases ht.symm.trans hclear
    · exact ⟨f, data, hf, hsel, hiff.mp ht⟩
  · obtain ⟨f, hf, hw⟩ := step_selected_ne hstep hreset (by simp [hs, ht])
    rcases hw with ⟨hnke, _⟩ | ⟨data, hsel, hiff⟩
    · exact ⟨f, hf, .inl hnke⟩
    · have hno := mt hiff.mpr (Bool.eq_false_iff.mp ht)
      rw [not_and_or, Bool.not_eq_true] at hno
      exact ⟨f, hf, .inr ⟨data, hsel, hno⟩⟩

/-! ### A frame executed twice (42_slave_commands.md R184) -/

/-- The command that a frame's code and CI select, once the block acts on the frame (R155). -/
def frameCommand (p : Params) (f : Frame) (s : State) : State :=
  match f with
  | .ack => s
  | .short c a =>
    if codeOf p c = p.cSndNke then sndNke s a
    else if codeOf p c = p.cReqUd2 then reqUd2 s a
    else s
  | .control c a ci data =>
    if codeOf p c = p.cSndNke then sndNke s a
    else if codeOf p c = p.cReqUd2 then reqUd2 s a
    else if codeOf p c = p.cSndUd ∧ ci = p.ciDataSend ∧ isSetAddr data then
      setAddr s (newAddress data)
    else if codeOf p c = p.cSndUd ∧ ci = p.ciSelectSlave then select s data
    else s

/-- EXECUTE takes the frame's command, or the address filters drop the frame. -/
theorem executeFrame_command_or_keeps (s : State) (f : Frame) :
    executeFrame s f = frameCommand s.par f s ∨ executeFrame s f = s := by
  cases f with
  | ack => exact .inr rfl
  | short c a =>
    cases ha : heard s.primary a with
    | true => exact .inl (executeFrame_short_of_heard ha)
    | false => exact .inr (executeFrame_of_unheard rfl ha)
  | control c a ci data =>
    cases ha : heard s.primary a with
    | true => exact .inl (executeFrame_control_of_heard ha)
    | false => exact .inr (executeFrame_of_unheard rfl ha)

theorem sndNke_toRegs (s : State) (a : Byte) :
    (sndNke s a).toRegs = { s.toRegs with selected := selectedAfterNke a s.selected } := by
  rw [sndNke_eq]
  split_ifs <;> rfl

theorem select_toRegs (s : State) (data : List Byte) : (select s data).toRegs =
    { s.toRegs with selected := (matchesSecondary data s.secid).1 } := by
  simp only [select]
  split_ifs <;> rfl

theorem sndNke_twice_toRegs (s : State) (a : Byte) :
    (sndNke (sndNke s a) a).toRegs = (sndNke s a).toRegs := by
  have hidem : selectedAfterNke a (selectedAfterNke a s.selected) = selectedAfterNke a s.selected := by
    simp only [selectedAfterNke]
    split_ifs <;> rfl
  rw [sndNke_toRegs (sndNke s a), sndNke_toRegs s, hidem]

theorem reqUd2_twice_toRegs (s : State) (a : Byte) :
    (reqUd2 (reqUd2 s a) a).toRegs = (reqUd2 s a).toRegs := by
  rcases reqUd2_cases s a with ⟨h, e⟩ | ⟨_, _, e⟩
  · have h' : (sendResponse s).selected = true ∨ a = (sendResponse s).primary := h
    rw [e, reqUd2, if_pos h']
    rfl
  · rw [e, e]

theorem setAddr_twice_toRegs (s : State) (new : Byte) :
    (setAddr (setAddr s new) new).toRegs = (setAddr s new).toRegs := by
  rcases setAddr_cases s new with ⟨h, e⟩ | ⟨_, e⟩
  · rw [setAddr_eq (setAddr s new), e, if_pos h]
  · rw [e, e]

theorem select_twice_toRegs (s : State) (data : List Byte) :
    (select (select s data) data).toRegs = (select s data).toRegs := by
  rw [select_toRegs (select s data), select_toRegs s]

/-- Every command writes registers to values that it computes again from what it wrote. -/
theorem frameCommand_twice_toRegs (p : Params) (f : Frame) (s : State) :
    (frameCommand p f (frameCommand p f s)).toRegs = (frameCommand p f s).toRegs := by
  cases f with
  | ack => rfl
  | short c a =>
    simp only [frameCommand]
    split_ifs
    · exact sndNke_twice_toRegs s a
    · exact reqUd2_twice_toRegs s a
    · rfl
  | control c a ci data =>
    simp only [frameCommand]
    split_ifs
    · exact sndNke_twice_toRegs s a
    · exact reqUd2_twice_toRegs s a
    · exact setAddr_twice_toRegs s (newAddress data)
    · exact select_twice_toRegs s data
    · rfl

/-- A frame that the block acts on again has the same command; one that it no longer acts on, because
its own set-address command changed PRIMARY, has none. -/
theorem executeFrame_twice_toRegs (s : State) (f : Frame) :
    (executeFrame (executeFrame s f) f).toRegs = (executeFrame s f).toRegs := by
  obtain ⟨-, -, -, hpar, -⟩ := executeFrame_frame s f
  rcases executeFrame_command_or_keeps s f with e | e
  · rcases executeFrame_command_or_keeps (executeFrame s f) f with e' | e' <;> rw [e']
    rw [hpar, e]
    exact frameCommand_twice_toRegs s.par f s
  · rw [e, e]

theorem executeFrame_runstate (s : State) (f : Frame) :
    (executeFrame s f).runstate = s.runstate := by
  obtain ⟨-, -, hrun, -⟩ := executeFrame_frame s f
  exact hrun

/-- Settles O56: in RUN the second execution writes what the first wrote; in HALT there is none. -/
theorem repeatedFrameSameEndState : Obligations.RepeatedFrameSameEndState := by
  intro s t u f ht hu
  by_cases hrun : s.runstate = .run
  · rw [exec_execute_of_run hrun] at ht
    cases ht
    rw [exec_execute_of_run ((executeFrame_runstate s f).trans hrun)] at hu
    cases hu
    exact ⟨executeFrame_twice_toRegs s f, executeFrame_runstate _ f⟩
  · rw [exec_execute, if_neg hrun] at ht
    cases ht
    rw [exec_execute, if_neg hrun] at hu
    cases hu
    exact ⟨rfl, rfl⟩

end Sys2Proof.Machine

namespace Sys2Proof.Machine

/-! ### The output rows (43_transport.md R196 to R201) -/

/-- A row that has one output emits it in RUN. -/
theorem exec_of_outputOfRow {i : Instr} {o : Output} {s : State} (h : outputOfRow s i = some o)
    (hrun : s.runstate = .run) : exec i s = .next (s.emit o) := by
  rw [← whenRun_run hrun fun s => s.emit o]
  cases i with
  | ackOut | tx | verdict | setbaud => cases h; rfl
  | _ => cases h

theorem exec_rspOut_of_run {s : State} (hrun : s.runstate = .run) :
    exec .rspOut s = .next (sendResponse s) :=
  congrArg _ (whenRun_run hrun sendResponse)

theorem exec_rxerr_of_run {s : State} (hrun : s.runstate = .run) :
    exec .rxerr s = .next s.raiseTransportReceive :=
  congrArg _ (whenRun_run hrun fun s => s.raiseTransportReceive)

/-- Settles O25: the row is `raiseTransportReceive`, which writes RXBUF and the outputs only. -/
theorem receiveErrorEffect : Obligations.ReceiveErrorEffect :=
  fun _ hrun => exec_rxerr_of_run hrun

/-- Settles O41: four rows emit their output and do nothing else; RSP_OUT is the response. -/
theorem outputRowsEmit : Obligations.OutputRowsEmit :=
  fun _ _ _ _ hrun => ⟨exec_of_outputOfRow rfl hrun, exec_rspOut_of_run hrun,
    exec_of_outputOfRow rfl hrun, exec_of_outputOfRow rfl hrun, exec_of_outputOfRow rfl hrun⟩

/-! ### The line (43_transport.md R197, R198) -/

theorem sentBytes_prefix (k : Nat) (bytes : List Byte) : sentBytes k bytes <+: bytes := by
  unfold sentBytes
  split_ifs
  · exact List.prefix_rfl
  · exact List.take_prefix _ bytes

/-- The sends of a second list are counted on from the length of the first. -/
theorem lineFrom_append (k : Nat) (xs ys : List (List Byte)) :
    lineFrom k (xs ++ ys) = lineFrom k xs ++ lineFrom (k + xs.length) ys := by
  induction xs generalizing k with
  | nil => rfl
  | cons x xs ih =>
    rw [List.cons_append, lineFrom, ih, lineFrom, List.append_assoc, List.length_cons,
      Nat.add_right_comm, Nat.add_assoc]

/-- Settles O42: a send puts all its bytes on the line or a `take` of them, and the line of a list
of sends is built send by send. -/
theorem lineCarriesPrefixesInOrder : Obligations.LineCarriesPrefixesInOrder :=
  ⟨sentBytes_prefix, lineFrom_append⟩

/-! ### The outputs of one step (43_transport.md R196, 42_slave_commands.md R185, R217) -/

/-- A command emits nothing, one TX, or the AddressingError of a selection. -/
theorem executeFrame_outs_cases (s : State) (f : Frame) :
    (executeFrame s f).outs = s.outs ∨
    (∃ d bytes, (executeFrame s f).outs = s.outs ++ [.tx d bytes]) ∨
    (executeFrame s f).outs = s.outs ++ [.verdict (.err .addressing)] := by
  rcases executeFrame_cases s f with e | ⟨_, a, _, _, _, e⟩ | ⟨_, a, _, _, _, e⟩ |
    ⟨_, _, d, _, _, _, _, e⟩ | ⟨_, _, d, _, _, _, e⟩ <;> rw [e]
  · exact .inl rfl
  · rw [sndNke_eq]
    split_ifs
    · exact .inr (.inl ⟨_, _, rfl⟩)
    · exact .inl rfl
  · rcases reqUd2_cases s a with ⟨_, e⟩ | ⟨_, _, e⟩ <;> rw [e]
    · exact .inr (.inl ⟨_, _, rfl⟩)
    · exact .inl rfl
  · rcases setAddr_cases s (newAddress d) with ⟨_, e⟩ | ⟨_, e⟩ <;> rw [e]
    · exact .inr (.inl ⟨_, _, rfl⟩)
    · exact .inl rfl
  · rcases select_cases s d with ⟨_, _, e⟩ | ⟨_, _, e⟩ | ⟨_, e⟩ <;> rw [e]
    · exact .inr (.inl ⟨_, _, rfl⟩)
    · exact .inl rfl
    · exact .inr (.inr rfl)

/-- A step that is no RESET executes the frame its byte completes, behind its VERDICT(Ok), or emits
at most one verdict. -/
theorem step_executes_or_reports {s t : State} (hstep : step s = .next t)
    (hreset : ∀ cfg rest, s.inq ≠ .reset cfg :: rest) :
    (∃ f rest, completes s f ∧ t = executeFrame
      { s with inq := rest, rxbuf := [], outs := s.outs ++ [.verdict (.ok f)] } f) ∨
    t.outs = s.outs ∨ ∃ v, t.outs = s.outs ++ [.verdict v] := by
  rcases step_effect hstep with ⟨_, rfl⟩ | ⟨ev, rest, hq, eff⟩
  · exact .inr (.inl rfl)
  cases ev with
  | reset cfg => exact absurd hq (hreset cfg rest)
  | rx b =>
    cases eff with
    | rxbyte _ hrun =>
      rcases receiveByte_cases { s with inq := rest } b with ⟨_, e⟩ | ⟨_, _, e⟩ | ⟨f, hf, e⟩
      · exact .inr (.inl (by rw [e]))
      · exact .inr (.inr ⟨_, by rw [e]⟩)
      · exact .inl ⟨f, rest, ⟨hrun, b, rest, hq, hf⟩, e⟩
    | nothing => exact .inr (.inl rfl)
    | returned _ h | raised h | emitted h => cases h
  | gap =>
    cases eff with
    | rxgap =>
      rcases receiveGap_cases { s with inq := rest } with ⟨_, e⟩ | ⟨_, e⟩
      · exact .inr (.inl (by rw [e]))
      · exact .inr (.inr ⟨_, by rw [e]⟩)
    | nothing => exact .inr (.inl rfl)
    | returned _ h | raised h | emitted h => cases h
  | rxerr =>
    cases eff with
    | rxerr => exact .inr (.inr ⟨_, rfl⟩)
    | nothing => exact .inr (.inl rfl)
    | returned _ h | raised h | emitted h => cases h
  | shutdown | fatal =>
    cases eff with
    | returned _ h | raised h | emitted h => cases h
    | _ => exact .inr (.inl rfl)

theorem codecVerdicts_singleton_length (v : Verdict) :
    ([.verdict v].filter isCodecVerdict).length ≤ 1 :=
  List.length_filter_le _ _

/-- The AddressingError behind a VERDICT(Ok) is a report, not a result of the codec (log
entry 22). -/
theorem codecVerdicts_ok_addressing_length (f : Frame) :
    ([.verdict (.ok f), .verdict (.err .addressing)].filter isCodecVerdict).length ≤ 1 :=
  Nat.le_refl 1

/-- Settles O54: a completed frame has its VERDICT(Ok) and then what its command emits; any other
step has one verdict at most. -/
theorem stepOutputShape : Obligations.StepOutputShape := by
  intro s t hstep hreset
  rcases step_executes_or_reports hstep hreset with ⟨f, rest, hf, rfl⟩ | h | ⟨v, h⟩
  · rcases executeFrame_outs_cases
      { s with inq := rest, rxbuf := [], outs := s.outs ++ [.verdict (.ok f)] } f with
      h | ⟨d, bytes, h⟩ | h
    · exact ⟨[.verdict (.ok f)], [], by simp [h],
        by simp [isVerdict, codecVerdicts_singleton_length]⟩
    · exact ⟨[.verdict (.ok f)], [.tx d bytes], h,
        by simpa [isVerdict, codecVerdicts_singleton_length] using hf⟩
    · exact ⟨[.verdict (.ok f), .verdict (.err .addressing)], [], by simp [h],
        by simpa [isVerdict, codecVerdicts_ok_addressing_length] using hf⟩
  · exact ⟨[], [], by simp [h], by simp⟩
  · exact ⟨[.verdict v], [], by simp [h], by simp [isVerdict, codecVerdicts_singleton_length]⟩

end Sys2Proof.Machine

namespace Sys2Proof.Machine

/-! ### Errors and halting (60_exceptions.md R214 to R225) -/

/-- Settles O29: a rejection row raises its error, which writes RXBUF and the outputs only. -/
theorem rejectionRowsRaise : Obligations.RejectionRowsRaise :=
  fun _ _ _ he hrun => exec_of_rejectionError he hrun

theorem setRunstate_eq_self {s : State} {r : RunState} (h : s.runstate = r) :
    s.setRunstate r = s := by
  rw [State.setRunstate, ← h]

theorem exec_shutdown (s : State) : exec .shutdown s = .next (s.setRunstate .halt) := rfl

theorem exec_fatal (s : State) : exec .fatal s = .next (s.setRunstate .halt) := rfl

/-- Settles O26: both rows write RUNSTATE and nothing else. -/
theorem shutdownAndFatalHalt : Obligations.ShutdownAndFatalHalt :=
  fun s => ⟨exec_shutdown s, exec_fatal s⟩

/-- In HALT the receive rows fail their guard, and SHUTDOWN and FATAL write the HALT that stands. -/
theorem exec_eventInstr_of_halt {s : State} {ev : Event} (hhalt : s.runstate = .halt)
    (hev : isResetEvent ev = false) : exec (eventInstr ev) s = .next s := by
  cases ev with
  | reset cfg => cases hev
  | rx | gap | rxerr => exact congrArg _ (whenRun_halt hhalt _)
  | shutdown | fatal => exact congrArg _ (setRunstate_eq_self hhalt)

/-- Settles O27: a step takes the first event and executes its row, which in HALT does nothing. -/
theorem haltConsumesEventsSilently : Obligations.HaltConsumesEventsSilently := by
  refine ⟨exec_fatal, fun s ev rest hhalt hinq hev => ?_⟩
  rw [step_of_inq_cons hinq]
  exact exec_eventInstr_of_halt (s := { s with inq := rest }) hhalt hev

/-- Settles O49: every row has one of the effects of `ExecEffect`. -/
theorem everyInstructionAnswers : Obligations.EveryInstructionAnswers := by
  intro i s
  obtain ⟨t, ht, -⟩ := exec_answers_effect i s
  exact ⟨t, ht⟩

end Sys2Proof.Machine

namespace Sys2Proof.Machine

/-! ### The registers of a configuration (70_reset_and_hazards.md R240, R243) -/

/-- The registers that the decoded parts of an acceptable configuration make up: the converse of
`regsOfCfg_some`. -/
theorem regsOfCfg_of_parts {cfg : Cfg} {secid : Quad} {resp : Resp} (hok : cfg.ok = true)
    (hid : quadOf cfg.secid = some secid) (hresp : respOfCfg cfg.resp = some resp) :
    regsOfCfg cfg = some {
      primary := cfg.primary
      selected := false
      secid := secid
      manuf := cfg.manuf
      medium := cfg.medium
      version := cfg.version
      resp := { resp with a := cfg.primary }
      rxbuf := []
      baud := cfg.baud
      debug := cfg.debug } := by
  simp only [regsOfCfg, hok, hid, hresp]

/-- A configuration loads registers exactly when each of its three parts is acceptable. -/
theorem regsOfCfg_isSome_iff {cfg : Cfg} : (regsOfCfg cfg).isSome = true ↔
    cfg.ok = true ∧ (quadOf cfg.secid).isSome = true ∧ (respOfCfg cfg.resp).isSome = true := by
  constructor
  · intro h
    obtain ⟨r, hr⟩ := Option.isSome_iff_exists.mp h
    obtain ⟨hok, hid, resp, hresp, -⟩ := regsOfCfg_some hr
    exact ⟨hok, Option.isSome_of_eq_some hid, Option.isSome_of_eq_some hresp⟩
  · rintro ⟨hok, hid, hresp⟩
    obtain ⟨secid, hid⟩ := Option.isSome_iff_exists.mp hid
    obtain ⟨resp, hresp⟩ := Option.isSome_iff_exists.mp hresp
    exact Option.isSome_of_eq_some (regsOfCfg_of_parts hok hid hresp)

theorem regsOfCfg_eq_none_iff {cfg : Cfg} : regsOfCfg cfg = none ↔
    cfg.ok = false ∨ quadOf cfg.secid = none ∨ respOfCfg cfg.resp = none := by
  rw [← Option.not_isSome_iff_eq_none, regsOfCfg_isSome_iff, not_and_or, not_and_or,
    Bool.not_eq_true, Option.not_isSome_iff_eq_none, Option.not_isSome_iff_eq_none]

theorem resetWith_of_some {cfg : Cfg} {r : Regs} (h : regsOfCfg cfg = some r) (s : State) :
    resetWith s cfg =
      { s with toRegs := r, outs := s.outs ++ [.setbaud r.baud], runstate := .run } := by
  simp only [resetWith, h]
  rfl

theorem resetWith_of_none {cfg : Cfg} (h : regsOfCfg cfg = none) (s : State) :
    resetWith s cfg =
      { s with
        toRegs := Config.unspecifiedRegs s.draws
        runstate := .halt
        draws := s.draws + 1 } := by
  simp only [resetWith, h]
  rfl

/-- Settles O3: RESET loads what `regsOfCfg` makes of the configuration, and halts with free
registers when that is nothing. -/
theorem resetLoadsEveryRegisterOrHalts : Obligations.ResetLoadsEveryRegisterOrHalts := by
  refine fun s cfg => ⟨fun secid resp hok hid hresp => ?_, fun h => ?_⟩
  · rw [exec_reset, resetWith_of_some (regsOfCfg_of_parts hok hid hresp)]
  · exact ⟨Config.unspecifiedRegs s.draws,
      congrArg _ (resetWith_of_none (regsOfCfg_eq_none_iff.mpr h) s)⟩

/-- Settles O2: the boot configuration is acceptable, and what RESET does not load is given. -/
theorem resetStateIsResetOfBootConfiguration :
    Obligations.ResetStateIsResetOfBootConfiguration := by
  intro s hpar hinq houts hdraws hret
  rw [(resetLoadsEveryRegisterOrHalts s bootCfg).1 _ _ rfl rfl rfl, hpar, hinq, houts, hdraws, hret]
  rfl

/-! ### The parts of a configuration (R243) -/

theorem quadOf_isSome_iff {bs : List Byte} : (quadOf bs).isSome = true ↔ bs.length = 4 := by
  unfold quadOf
  split
  · simp
  · next hne =>
    refine iff_of_false Bool.false_ne_true fun h => ?_
    obtain ⟨b0, b1, b2, b3, rfl⟩ := List.length_eq_four.mp h
    exact hne _ _ _ _ rfl

/-- A blob is a response when DECODE answers it with a Control frame and no byte is left over. -/
theorem respOfBlob_eq_some_iff {b : List Byte} {r : Resp} : respOfBlob b = some r ↔
    decodeFrame b = (.ok (responseFrame r), b.length) := by
  constructor
  · intro h
    unfold respOfBlob at h
    split at h
    · next hd =>
      split_ifs at h with hk
      cases h
      rw [hd, hk, responseFrame]
    · cases h
  · intro h
    rw [responseFrame] at h
    simp only [respOfBlob, h, if_true]

/-- Settles O5: DECODE answers with frames that fit, and inverts ENCODE on them. -/
theorem acceptedBlobIsEncodedFrame : Obligations.AcceptedBlobIsEncodedFrame := by
  intro b r
  rw [respOfBlob_eq_some_iff]
  constructor
  · intro h
    have henc : encodeFrame (responseFrame r) = b := by
      rw [encodeFrame_of_decodeFrame h, List.take_length]
    exact ⟨of_decide_eq_true (decodeFrame_ok_fits h), henc.symm⟩
  · rintro ⟨hlen, rfl⟩
    exact decodeFrame_encodeFrame (f := responseFrame r) (decide_eq_true hlen)

theorem respOfBlob_isSome_iff {b : List Byte} : (respOfBlob b).isSome = true ↔
    ∃ c a ci payload, decodeFrame b = (.ok (.control c a ci payload), b.length) := by
  simp only [Option.isSome_iff_exists, respOfBlob_eq_some_iff]
  exact ⟨fun ⟨r, h⟩ => ⟨r.c, r.a, r.ci, r.data, h⟩,
    fun ⟨c, a, ci, payload, h⟩ => ⟨⟨c, a, ci, payload⟩, h⟩⟩

/-- The responses that a configuration can be accepted with, by the form in which it gives them. -/
theorem respOfCfg_isSome_iff {rc : RespCfg} : (respOfCfg rc).isSome = true ↔
    rc = .builtin ∨
    (∃ b c a ci payload, rc = .raw b ∧
      decodeFrame b = (.ok (.control c a ci payload), b.length)) ∨
    (∃ c a ci payload, rc = .fields c a ci payload ∧ payload.length ≤ maxPayload) := by
  cases rc with
  | builtin => exact iff_of_true rfl (.inl rfl)
  | raw b => simp [respOfCfg, respOfBlob_isSome_iff]
  | fields c a ci payload => simp [respOfCfg]

/-- Settles O4: each part of the configuration has its own test. -/
theorem startupAcceptsWellFormedConfigurationsOnly :
    Obligations.StartupAcceptsWellFormedConfigurationsOnly := by
  intro cfg
  rw [regsOfCfg_isSome_iff, quadOf_isSome_iff, respOfCfg_isSome_iff]
  rfl

/-! ### After a change of PRIMARY (R254, 42_slave_commands.md R171) -/

/-- What a set-address leaves of the registers that the next command reads. -/
theorem exec_setAddr_of_selected {s t : State} {c a new : Byte} {extra : List Byte}
    (hrun : s.runstate = .run) (hsel : s.selected = true) (ha : heard s.primary a = true)
    (h : exec (.setAddr c a new extra) s = .next t) :
    t.runstate = .run ∧ t.selected = true ∧ t.primary = new ∧ t.resp.a = new := by
  rw [(setAddrEffect s c a hrun ha).1 new extra, if_pos hsel] at h
  cases h
  exact ⟨hrun, hsel, rfl, rfl⟩

/-- 255 is never heard, whatever PRIMARY is. -/
theorem heard_bcastNoreply (primary : Byte) : heard primary addrBcastNoreply = false := rfl

theorem heard_eq_false {primary a : Byte} (hp : a ≠ primary) (hr : a ≠ addrBcastReply)
    (hn : a ≠ addrNetwork) : heard primary a = false := by
  rw [Bool.eq_false_iff, Ne, heard_iff, matchesPrimary_iff]
  exact fun h => h.2.elim hp (·.elim hr hn)

/-- With RESP.A equal to PRIMARY, as 10_state.md R31 keeps it, the response changes no register. -/
theorem sendResponse_of_respA {s : State} (h : s.resp.a = s.primary) : sendResponse s =
    { s with
      outs := s.outs ++ [.tx .zero
        (encodeFrame (.control s.resp.c s.primary s.resp.ci s.resp.data))] } := by
  have hresp : { s.resp with a := s.primary } = s.resp := by rw [← h]
  rw [sendResponse_eq, hresp]

/-- A selected block answers a REQ_UD2 to any address it hears. -/
theorem executeFrame_reqUd2_of_selected {s : State} {c a : Byte} (hsel : s.selected = true)
    (ha : heard s.primary a = true) (hc : codeOf s.par c = s.par.cReqUd2)
    (hne : s.par.cSndNke ≠ s.par.cReqUd2) : executeFrame s (.short c a) = sendResponse s := by
  rw [executeFrame_short_of_heard ha, hc, if_neg hne.symm, if_pos rfl, reqUd2, if_pos (.inl hsel)]

/-- Settles O55: the address test of the next frame reads the PRIMARY that the set-address wrote,
and SELECTED still stands. -/
theorem addressChangeBitesAtOnce : Obligations.AddressChangeBitesAtOnce := by
  intro s t c a new c' a' extra hrun hsel ha ht
  obtain ⟨htrun, htsel, rfl, hta⟩ := exec_setAddr_of_selected hrun hsel ha ht
  refine ⟨htsel, fun hold hn hr f hf => ?_, fun ha' hb hc hne => ?_, fun hnew => ?_⟩
  · exact (unheardFramesDoNothing t f _ hf (heard_eq_false hold hr hn)).1
  · have hheard : heard t.primary a' = true :=
      heard_iff.mpr ⟨hb, matchesPrimary_iff.mpr (ha'.imp_right Or.symm)⟩
    rw [exec_execute_of_run htrun, executeFrame_reqUd2_of_selected htsel hheard hc hne,
      sendResponse_of_respA hta]
  · have hunheard : heard t.primary t.primary = false := by
      rw [hnew]
      exact heard_bcastNoreply _
    exact (unheardFramesDoNothing t _ _ rfl hunheard).1

end Sys2Proof.Machine

namespace Sys2Proof.Machine

/-! ### SND_NKE to the network-layer address (R160, 93_implementation_defined.md U1) -/

/-- 253 is heard, whatever PRIMARY is. -/
theorem heard_network (primary : Byte) : heard primary addrNetwork = true :=
  heard_iff.mpr ⟨by decide, matchesPrimary_iff.mpr (.inr (.inr rfl))⟩

/-- Under U1's other value 253 is acknowledged, whatever PRIMARY is. -/
theorem nkeAcked_network {p : Params} (hp : p.nkeNetlayerAck = true) (primary : Byte) :
    nkeAcked p primary addrNetwork = true := by
  simp only [nkeAcked, hp, beq_self_eq_true, Bool.and_self, Bool.or_true]

theorem selectedAfterNke_network (selected : Bool) :
    selectedAfterNke addrNetwork selected = false := rfl

/-- Settles O31: both rows are `sndNke` of 253, which deselects and here is acknowledged. -/
theorem sndNkeNetworkAckParameter : Obligations.SndNkeNetworkAckParameter := by
  intro s c ci data i hi hrun hp
  have hexec : exec i s = .next (sndNke s addrNetwork) := by
    rcases hi with rfl | rfl <;> exact congrArg _ (onFrame_heard hrun (heard_network _) _)
  rw [hexec, sndNke_eq, if_pos (nkeAcked_network hp _), selectedAfterNke_network]
  rfl

end Sys2Proof.Machine
